-- ==== Sys2Proof/Word.lean ====
section
/-! DEFINITION. The data types of the engine: bytes, fixed-length byte buffers, the result statuses and the
transceiver command names (00_scope.md R12, 10_state.md R21, 30_encoding.md R104 and R119). -/

namespace Sys2Proof

/-- One byte, bit 0 least significant (R12). Register addresses, register values and command codes are bytes
(R8: `ADDR_W`, `DATA_W`, `CMD_W` are 8). -/
abbrev Byte := BitVec 8

/-- A buffer of exactly `n` bytes, index 0 first (R12). -/
abbrev Bytes (n : Nat) := Vector Byte n

/-- The three result statuses of a card operation (R119, R280). `BusError` is not one of them: it is never
stored in `E.STATUS` (R120). -/
inductive Status where
  | ok
  | noTagError
  | protocolError
deriving DecidableEq, Repr, Inhabited

/-- The five CommandCodes the source names (R104). -/
inductive Command where
  | idle
  | calcCrc
  | transceive
  | mfAuthent
  | softReset
deriving DecidableEq, Repr, Inhabited

end Sys2Proof
end

