-- ==== Sys2Proof/Config.lean ====
section
/-! DEFINITION. The configuration of 00_scope.md R8 to R11: every parameter the source leaves without a number, with
the spec's default, and the free values (opaque constants) that stand for what the spec calls unspecified. -/

namespace Sys2Proof

/-- `FIFO_SIZE` (R8): bytes in the transceiver FIFO, and the upper clamp of its level. -/
def Config.fifoSize : Nat := 64

/-- `BLOCK_SIZE` (R8): bytes in one card block. -/
def Config.blockSize : Nat := 16

/-- `SN_LEN` (R8): bytes in UID and BCC together. -/
def Config.snLen : Nat := 5

/-- `ATQA_BITS` (R8): bits in the answer to REQUEST. -/
def Config.atqaBits : Nat := 16

/-- The register address parameters `REG.*` with their defaults (R59, decision D1). -/
structure RegMap where
  command    : Byte := 0x01
  comIEn     : Byte := 0x02
  comIrq     : Byte := 0x04
  divIrq     : Byte := 0x05
  error      : Byte := 0x06
  status2    : Byte := 0x08
  fifoData   : Byte := 0x09
  fifoLevel  : Byte := 0x0A
  control    : Byte := 0x0C
  bitFraming : Byte := 0x0D
  mode       : Byte := 0x11
  txControl  : Byte := 0x14
  txASK      : Byte := 0x15
  crcResultM : Byte := 0x21
  crcResultL : Byte := 0x22
  tMode      : Byte := 0x2A
  tPrescaler : Byte := 0x2B
  tReloadH   : Byte := 0x2C
  tReloadL   : Byte := 0x2D
  version    : Byte := 0x37
deriving DecidableEq, Repr

/-- The twenty addresses of R59, in its order. -/
def RegMap.addresses (r : RegMap) : List Byte :=
  [r.command, r.comIEn, r.comIrq, r.divIrq, r.error, r.status2, r.fifoData, r.fifoLevel, r.control,
   r.bitFraming, r.mode, r.txControl, r.txASK, r.crcResultM, r.crcResultL, r.tMode, r.tPrescaler,
   r.tReloadH, r.tReloadL, r.version]

/-- The addresses the engine reads (R59, column "access by the engine"). -/
def RegMap.readable (r : RegMap) : List Byte :=
  [r.comIrq, r.divIrq, r.error, r.status2, r.fifoData, r.fifoLevel, r.control, r.bitFraming,
   r.txControl, r.crcResultM, r.crcResultL]

/-- The addresses the engine writes (R59, column "access by the engine"). -/
def RegMap.writable (r : RegMap) : List Byte :=
  [r.command, r.comIEn, r.comIrq, r.divIrq, r.status2, r.fifoData, r.fifoLevel, r.bitFraming, r.mode,
   r.txControl, r.txASK, r.tMode, r.tPrescaler, r.tReloadH, r.tReloadL]

/-- The bit-mask parameters `BIT.*`, `IRQEN.*` and `WAIT.*` with their defaults (R60, decision D3). -/
structure Masks where
  irqInv          : Byte := 0x80
  irqEnTransceive : Byte := 0x77
  irqEnAuthent    : Byte := 0x12
  set1            : Byte := 0x80
  txIRq           : Byte := 0x40
  rxIRq           : Byte := 0x20
  idleIRq         : Byte := 0x10
  hiAlertIRq      : Byte := 0x08
  loAlertIRq      : Byte := 0x04
  errIRq          : Byte := 0x02
  timerIRq        : Byte := 0x01
  waitTransceive  : Byte := 0x30
  crcIRq          : Byte := 0x04
  errMask         : Byte := 0x1B
  crypto1On       : Byte := 0x08
  flushBuffer     : Byte := 0x80
  rxLastBits      : Byte := 0x07
  startSend       : Byte := 0x80
  antennaOn       : Byte := 0x03
deriving DecidableEq, Repr

/-- The command code parameters `CMD.*` with their defaults (R104, decision D2). -/
structure CommandCodes where
  idle       : Byte := 0x00
  calcCrc    : Byte := 0x03
  transceive : Byte := 0x0C
  mfAuthent  : Byte := 0x0E
  softReset  : Byte := 0x0F
deriving DecidableEq, Repr

/-- The byte written to `REG.Command` for a command (R102, R104). -/
def CommandCodes.code (c : CommandCodes) : Command → Byte
  | .idle => c.idle
  | .calcCrc => c.calcCrc
  | .transceive => c.transceive
  | .mfAuthent => c.mfAuthent
  | .softReset => c.softReset

/-- The five codes, in the order of R104. -/
def CommandCodes.codes (c : CommandCodes) : List Byte :=
  [c.idle, c.calcCrc, c.transceive, c.mfAuthent, c.softReset]

/-- The card command byte parameters `PICC.*` with their defaults (R110, decision D4). -/
structure CardBytes where
  request     : Byte := 0x26
  selCL1      : Byte := 0x93
  nvbAnticoll : Byte := 0x20
  nvbSelect   : Byte := 0x70
  authA       : Byte := 0x60
  authB       : Byte := 0x61
  read        : Byte := 0x30
  write       : Byte := 0xA0
  ack         : Byte := 0x0A
deriving DecidableEq, Repr

/-- The initialisation value parameters `INITV.*` with their defaults (R161, decision D5). -/
structure InitValues where
  tMode      : Byte := 0x8D
  tPrescaler : Byte := 0x3E
  tReloadL   : Byte := 0x1E
  tReloadH   : Byte := 0x00
  txASK      : Byte := 0x40
  mode       : Byte := 0x3D
deriving DecidableEq, Repr

/-- The host operation codes of the op byte's bits 2:0 (R10, R107, decision D22). -/
structure HostCodes where
  init           : BitVec 3 := 0
  scan           : BitVec 3 := 1
  identify       : BitVec 3 := 2
  select         : BitVec 3 := 3
  authenticate   : BitVec 3 := 4
  deauthenticate : BitVec 3 := 5
  read           : BitVec 3 := 6
  write          : BitVec 3 := 7
deriving DecidableEq, Repr

/-- The eight codes, in the order of R107. -/
def HostCodes.codes (h : HostCodes) : List (BitVec 3) :=
  [h.init, h.scan, h.identify, h.select, h.authenticate, h.deauthenticate, h.read, h.write]

/-- The numeric status codes (R10, R120, decision D23). -/
structure StatusCodes where
  ok            : BitVec 2 := 0
  noTagError    : BitVec 2 := 1
  protocolError : BitVec 2 := 2
  busError      : BitVec 2 := 3
deriving DecidableEq, Repr

/-- The code of a status in the 2-bit register `E.STATUS` (R21, R120). -/
def StatusCodes.code (c : StatusCodes) : Status → BitVec 2
  | .ok => c.ok
  | .noTagError => c.noTagError
  | .protocolError => c.protocolError

/-- `CFG.noTagRule` (R11, R232, decision D9). -/
inductive NoTagRule where
  | timerAndErrIrq
  | timerOnly
deriving DecidableEq, Repr

/-- The whole configuration (R8 to R11). The defaults are the spec's; every field is a constant that no step
changes (R28(a), R321). -/
structure Config where
  reg              : RegMap := {}
  bit              : Masks := {}
  cmd              : CommandCodes := {}
  picc             : CardBytes := {}
  initv            : InitValues := {}
  hostOp           : HostCodes := {}
  statusCode       : StatusCodes := {}
  /-- `TRANSCEIVE_BUDGET` (R9), 1 to 65535 (decision D6). -/
  transceiveBudget : BitVec 16 := 2000
  /-- `CRC_BUDGET` (R9), 1 to 65535 (decision D6). -/
  crcBudget        : BitVec 16 := 255
  noTagRule        : NoTagRule := .timerAndErrIrq
  /-- `CFG.authWaitMask` (R11, R240, decision D10). -/
  authWaitMask     : Byte := 0x12
  /-- `CFG.ackCheck` (R11, R211, decision D21). -/
  ackCheck         : Bool := false
  /-- `CFG.trackSession` (R11, R214, decision D27): only `false` is specified. -/
  trackSession     : Bool := false
deriving DecidableEq, Repr

/-- The spec's defaults. -/
def Config.default : Config := {}

/-- Both budgets are at least 1 (R9, U15). -/
def Config.budgetsOk (c : Config) : Bool := c.transceiveBudget != 0 && c.crcBudget != 0

/-- A configuration the spec admits: the twenty addresses are distinct (R59), the command codes are distinct with
bits 7:4 zero (R102, R104), the leading bytes that tell two frames of one length apart differ (R110), host and
status codes are distinct (R107, R120), the budgets are at least 1 (R9), `BIT.RxLastBits` selects at most three low
bits, so that a partial last byte has 1 to 7 valid bits (R49, R233), and session tracking is off (R11). -/
abbrev Config.Wf (c : Config) : Prop :=
  c.reg.addresses.Nodup ∧
  c.cmd.codes.Nodup ∧ (∀ v ∈ c.cmd.codes, v.toNat < 16) ∧
  c.picc.authA ≠ c.picc.authB ∧ c.picc.read ≠ c.picc.write ∧
  c.hostOp.codes.Nodup ∧
  [c.statusCode.ok, c.statusCode.noTagError, c.statusCode.protocolError, c.statusCode.busError].Nodup ∧
  c.budgetsOk = true ∧
  c.bit.rxLastBits.toNat ≤ 7 ∧
  c.trackSession = false

/-! Free values: nothing constrains them, so a claim proved of the model holds whatever they are (log entry 14).
Each is applied to `State.fresh`, a counter. -/

/-- A byte of a register the spec calls unspecified (R29). -/
opaque Config.freeByte : Nat → Byte

/-- Byte `i` of an unspecified buffer of `n` bytes. -/
opaque Config.freeByteAt (n draw i : Nat) : Byte

/-- The bytes of a buffer the spec calls unspecified (R29, D37): each a free value of its own. -/
@[irreducible] def Config.freeBytes (n draw : Nat) : Bytes n := Vector.ofFn fun i => Config.freeByteAt n draw i.val

/-- An unspecified `E.STATUS`: one of the three codes the register can hold (R21, R120). -/
opaque Config.freeStatus : Nat → Status

/-- An unspecified `E.RXLEN`: within the range 0 to 64 that R21 gives the register. -/
opaque Config.freeLen : Nat → Fin 65

/-- An unspecified `E.RXBITS`: within the range 0 to 512 that R21 gives the register. -/
opaque Config.freeBits : Nat → Fin 513

/-- An unspecified one-bit register. -/
opaque Config.freeBool : Nat → Bool

/-- What the environment answers to a transaction whose answer has not been delivered as data: a byte, or failure
(`none`). "A free draw (an oracle), constrained by nothing" (R16(3), R62, R72 to R74, decision D32). -/
opaque Config.freeAnswer : Nat → Option Byte

/-- Which sector a block belongs to: a property of the card that the source does not give (R77, N18). Only the
ghost discipline of `Safety.lean` uses it. -/
opaque Config.sectorOf : Byte → Nat

end Sys2Proof
end

