-- ==== Sys2Proof/Syntax.lean ====
section
/-! DEFINITION. The instructions: one constructor per row of opcode_table.json (30_encoding.md R125), in four decode
spaces. Operand lengths are fixed by the types, as R84 and R106 fix the operand ports. -/

namespace Sys2Proof

/-- The 23 rows of the opcode table (R125). -/
inductive Instr where
  /-- INIT (R168). -/
  | init
  /-- SCAN (R183). -/
  | scan
  /-- IDENTIFY (R188). -/
  | identify
  /-- SELECT (R192): UID bytes 0 to 3, then BCC. -/
  | select (sn : Bytes 5)
  /-- AUTHENTICATE (R197): key selector (`false` key A, `true` key B), block, key, UID bytes 0 to 3. -/
  | authenticate (keyB : Bool) (blk : Byte) (key : Bytes 6) (uid : Bytes 4)
  /-- DEAUTHENTICATE (R201). -/
  | deauthenticate
  /-- READ (R207). -/
  | read (blk : Byte)
  /-- WRITE (R213). -/
  | write (blk : Byte) (data : Bytes 16)
  /-- RDREG (R141): bits 15:8 the address, bits 7:0 the byte returned (R101). -/
  | rdreg (addr : Byte) (data : Byte)
  /-- WRREG (R142): bits 15:8 the address, bits 7:0 the byte written (R101). -/
  | wrreg (addr : Byte) (data : Byte)
  /-- CMD_IDLE (R223). -/
  | cmdIdle
  /-- CMD_CALCCRC (R263). -/
  | cmdCalcCrc
  /-- CMD_TRANSCEIVE (R225). -/
  | cmdTransceive
  /-- CMD_MFAUTHENT (R225, R240). -/
  | cmdMfAuthent
  /-- CMD_SOFTRESET (R162). -/
  | cmdSoftReset
  /-- REQUEST (R111). -/
  | request
  /-- ANTICOLL (R112). -/
  | anticoll
  /-- SELECT_FRAME (R113): UID and BCC, then crcL, crcH. -/
  | selectFrame (sn : Bytes 5) (crc : Bytes 2)
  /-- AUTHBLK_A (R114). -/
  | authblkA (blk : Byte) (key : Bytes 6) (uid : Bytes 4)
  /-- AUTHBLK_B (R114). -/
  | authblkB (blk : Byte) (key : Bytes 6) (uid : Bytes 4)
  /-- MFREAD (R115). -/
  | mfRead (blk : Byte) (crc : Bytes 2)
  /-- MFWRITE (R116). -/
  | mfWrite (blk : Byte) (crc : Bytes 2)
  /-- MFWRITE_DATA (R117). -/
  | mfWriteData (data : Bytes 16) (crc : Bytes 2)
deriving DecidableEq, Repr

/-- The ports an encoded item can appear on. "The four groups are four separate decode spaces: a value is decoded
in the space of the port it appears on, never across spaces" (R125). -/
inductive Port where
  /-- Format HOST (R106): host operation words. -/
  | host
  /-- Format BUS (R101): RegisterBus transactions. -/
  | bus
  /-- Format PCDCMD (R102): the byte written to `REG.Command`. -/
  | command
  /-- Formats SHORT, STD, STDCRC, AUTHBLK, DATACRC (R111 to R117): frames staged in the FIFO. -/
  | frame
deriving DecidableEq, Repr

/-- The port an instruction belongs to (R125). -/
def Instr.port : Instr → Port
  | .init => .host
  | .scan => .host
  | .identify => .host
  | .select _ => .host
  | .authenticate _ _ _ _ => .host
  | .deauthenticate => .host
  | .read _ => .host
  | .write _ _ => .host
  | .rdreg _ _ => .bus
  | .wrreg _ _ => .bus
  | .cmdIdle => .command
  | .cmdCalcCrc => .command
  | .cmdTransceive => .command
  | .cmdMfAuthent => .command
  | .cmdSoftReset => .command
  | .request => .frame
  | .anticoll => .frame
  | .selectFrame _ _ => .frame
  | .authblkA _ _ _ => .frame
  | .authblkB _ _ _ => .frame
  | .mfRead _ _ => .frame
  | .mfWrite _ _ => .frame
  | .mfWriteData _ _ => .frame

end Sys2Proof
end

