-- ==== Sys2Proof/WellFormed.lean ====
section
/-! DEFINITION. Which instructions the engine can accept or produce. The operand lengths are in the types (R84); what
is left to check are the addresses and values of bus transactions (10_state.md R59, R41; 30_encoding.md R105; 60_exceptions.md
R304). -/

namespace Sys2Proof

/-- A read is at an address the engine reads (R59: "The engine accesses no other address"). -/
def Config.readOk (c : Config) (addr : Byte) : Bool := c.reg.readable.contains addr

/-- A write is at an address the engine writes (R59); a value written to `REG.Command` is one of the five codes (R105: "Any
8-bit value other than the five of rule R104 is never written to `REG.Command`"); and a value written to `REG.TxControl` has
both antenna-driver bits set (R304: the engine "never switches the antenna off"). -/
def Config.writeOk (c : Config) (addr v : Byte) : Bool :=
  c.reg.writable.contains addr && (addr != c.reg.command || c.cmd.codes.contains v) &&
    (addr != c.reg.txControl || v &&& c.bit.antennaOn == c.bit.antennaOn)

/-- The instruction is one the engine can accept from the host or produce itself under the configuration. -/
def Instr.wellFormed (c : Config) : Instr → Bool
  | .init => true
  | .scan => true
  | .identify => true
  | .select _ => true
  | .authenticate _ _ _ _ => true
  | .deauthenticate => true
  | .read _ => true
  | .write _ _ => true
  | .rdreg addr _ => c.readOk addr
  | .wrreg addr v => c.writeOk addr v
  | .cmdIdle => true
  | .cmdCalcCrc => true
  | .cmdTransceive => true
  | .cmdMfAuthent => true
  | .cmdSoftReset => true
  | .request => true
  | .anticoll => true
  | .selectFrame _ _ => true
  | .authblkA _ _ _ => true
  | .authblkB _ _ _ => true
  | .mfRead _ _ => true
  | .mfWrite _ _ => true
  | .mfWriteData _ _ => true

end Sys2Proof
end

