-- ==== Sys2Proof/Decode.lean ====
section
/-! DEFINITION. The decoder of the four spaces of 30_encoding.md (R100 to R125), total on any bytes and rejecting by
name; the encoder; and how an opcode-table word lies on a port. -/

namespace Sys2Proof

/-- Why a word offered at a port is no instruction. -/
inductive Reject where
  /-- A host op byte with a bit of 7:4 set, with bit 3 set outside AUTHENTICATE, or (under a configuration whose host
  codes do not fill the field) with no operation's code (R121(a), U7, U22). -/
  | illegalOp
  /-- Fewer or more bytes than the format has (R84: such a word cannot be presented on the real port). -/
  | wrongLength
  /-- A byte at the command port that is none of the five codes (R105). -/
  | notACommand
  /-- A bus word whose access the engine never makes: an address it does not read or write (R59, R71), a byte for the
  command register that is none of the five codes (R105), or one for the TX-control register that would switch the antenna
  off (R304). -/
  | notAccessed
  /-- Bytes at the frame port whose leading bytes are no frame of R111 to R117. -/
  | notAFrame
  /-- A bus word with a bit above bit 16 set (R101: the word has 17 bits). -/
  | notABusWord
deriving DecidableEq, Repr

/-- The first `n` bytes of a list as a buffer; used only on lists of that length. -/
def toBytes (n : Nat) (l : List Byte) : Bytes n := Vector.ofFn fun i => l.getD i.val 0

/-- Operands of fixed length (R106): the instruction when exactly `n` operand bytes stand there. -/
def withOperands (n : Nat) (ops : List Byte) (i : Instr) : Except Reject Instr :=
  if ops.length = n then .ok i else .error .wrongLength

/-- Bits 2:0 of the op byte (R106). -/
def opField (b : Byte) : BitVec 3 := b.extractLsb' 0 3

/-- Bit 3 of the op byte: the key selector (R106). -/
def opKey (b : Byte) : Bool := b.getLsbD 3

/-- Bits 7:4 of the op byte, which must be 0 (R106). -/
def opReserved (b : Byte) : BitVec 4 := b.extractLsb' 4 4

/-- How many operand bytes follow the op byte (R106, column "total bytes" less 1). -/
def hostOperandBytes (c : Config) (b : Byte) : Nat :=
  let op := opField b
  if op = c.hostOp.select then 5
  else if op = c.hostOp.authenticate then 11
  else if op = c.hostOp.read then 1
  else if op = c.hostOp.write then 17
  else 0

/-- Format HOST (R106, R107, R121(a)). -/
def decodeHost (c : Config) : List Byte → Except Reject Instr
  | [] => .error .wrongLength
  | b :: ops =>
    let op := opField b
    if opReserved b ≠ 0 then .error .illegalOp
    else if op = c.hostOp.authenticate then
      withOperands 11 ops (.authenticate (opKey b) (ops.getD 0 0) (toBytes 6 (ops.drop 1)) (toBytes 4 (ops.drop 7)))
    else if opKey b then .error .illegalOp
    else if op = c.hostOp.init then withOperands 0 ops .init
    else if op = c.hostOp.scan then withOperands 0 ops .scan
    else if op = c.hostOp.identify then withOperands 0 ops .identify
    else if op = c.hostOp.select then withOperands 5 ops (.select (toBytes 5 ops))
    else if op = c.hostOp.deauthenticate then withOperands 0 ops .deauthenticate
    else if op = c.hostOp.read then withOperands 1 ops (.read (ops.getD 0 0))
    else if op = c.hostOp.write then
      withOperands 17 ops (.write (ops.getD 0 0) (toBytes 16 (ops.drop 1)))
    else .error .illegalOp

/-- Format BUS (R101): bits 7:0 data, bits 15:8 address, bit 16 direction, least significant byte first. -/
def decodeBus : List Byte → Except Reject Instr
  | [d, a, dir] =>
    if dir = 0 then .ok (.rdreg a d) else if dir = 1 then .ok (.wrreg a d) else .error .notABusWord
  | _ => .error .wrongLength

/-- Format PCDCMD (R102, R104). -/
def decodeCommand (c : Config) : List Byte → Except Reject Instr
  | [b] =>
    if b = c.cmd.idle then .ok .cmdIdle
    else if b = c.cmd.calcCrc then .ok .cmdCalcCrc
    else if b = c.cmd.transceive then .ok .cmdTransceive
    else if b = c.cmd.mfAuthent then .ok .cmdMfAuthent
    else if b = c.cmd.softReset then .ok .cmdSoftReset
    else .error .notACommand
  | _ => .error .wrongLength

/-- The 7 significant bits of the short frame's only byte: bits 6:0 (R82, R111). -/
def shortBits (b : Byte) : Byte := b &&& 0x7F

/-- Card frames (R111 to R117), bytes in index order. The lengths tell the formats apart; leading bytes tell apart
the frames of one length. MFWRITE_DATA has no command byte: at the port it is known by its length, which no other frame
has; the position of its row's note ("the frame that follows an MFWRITE whose exchange returned Ok") is that of WRITE's
phase 2 (log entry 19). -/
def decodeFrame (c : Config) (l : List Byte) : Except Reject Instr :=
  match l.length with
  | 1 => if shortBits (l.getD 0 0) = shortBits c.picc.request then .ok .request else .error .notAFrame
  | 2 =>
    if l.getD 0 0 = c.picc.selCL1 ∧ l.getD 1 0 = c.picc.nvbAnticoll then .ok .anticoll else .error .notAFrame
  | 4 =>
    if l.getD 0 0 = c.picc.read then .ok (.mfRead (l.getD 1 0) (toBytes 2 (l.drop 2)))
    else if l.getD 0 0 = c.picc.write then .ok (.mfWrite (l.getD 1 0) (toBytes 2 (l.drop 2)))
    else .error .notAFrame
  | 9 =>
    if l.getD 0 0 = c.picc.selCL1 ∧ l.getD 1 0 = c.picc.nvbSelect then
      .ok (.selectFrame (toBytes 5 (l.drop 2)) (toBytes 2 (l.drop 7)))
    else .error .notAFrame
  | 12 =>
    if l.getD 0 0 = c.picc.authA then
      .ok (.authblkA (l.getD 1 0) (toBytes 6 (l.drop 2)) (toBytes 4 (l.drop 8)))
    else if l.getD 0 0 = c.picc.authB then
      .ok (.authblkB (l.getD 1 0) (toBytes 6 (l.drop 2)) (toBytes 4 (l.drop 8)))
    else .error .notAFrame
  | 18 => .ok (.mfWriteData (toBytes 16 l) (toBytes 2 (l.drop 16)))
  | _ => .error .wrongLength

/-- The decoder: a word is read in the space of the port it appears on (R125). -/
def decode (c : Config) : Port → List Byte → Except Reject Instr
  | .host, l => decodeHost c l
  | .bus, l => decodeBus l
  | .command, l => decodeCommand c l
  | .frame, l => decodeFrame c l

/-- The op byte of a host operation (R106): bits 7:4 zero, bit 3 the key selector, bits 2:0 the code. -/
def opByte (key : Bool) (op : BitVec 3) : Byte := (0 : BitVec 4) ++ BitVec.ofBool key ++ op

/-- The card bytes of the AUTHENTICATE operand block (R114). -/
def authBlockBytes (cmd blk : Byte) (key : Bytes 6) (uid : Bytes 4) : List Byte :=
  cmd :: blk :: (key.toList ++ uid.toList)

/-- The bytes of an instruction on its port (R101, R102, R106, R111 to R117). -/
def encodeBytes (c : Config) : Instr → List Byte
  | .init => [opByte false c.hostOp.init]
  | .scan => [opByte false c.hostOp.scan]
  | .identify => [opByte false c.hostOp.identify]
  | .select sn => opByte false c.hostOp.select :: sn.toList
  | .authenticate k blk key uid => opByte k c.hostOp.authenticate :: blk :: (key.toList ++ uid.toList)
  | .deauthenticate => [opByte false c.hostOp.deauthenticate]
  | .read blk => [opByte false c.hostOp.read, blk]
  | .write blk data => opByte false c.hostOp.write :: blk :: data.toList
  | .rdreg a d => [d, a, 0]
  | .wrreg a d => [d, a, 1]
  | .cmdIdle => [c.cmd.idle]
  | .cmdCalcCrc => [c.cmd.calcCrc]
  | .cmdTransceive => [c.cmd.transceive]
  | .cmdMfAuthent => [c.cmd.mfAuthent]
  | .cmdSoftReset => [c.cmd.softReset]
  | .request => [c.picc.request]
  | .anticoll => [c.picc.selCL1, c.picc.nvbAnticoll]
  | .selectFrame sn crc => c.picc.selCL1 :: c.picc.nvbSelect :: (sn.toList ++ crc.toList)
  | .authblkA blk key uid => authBlockBytes c.picc.authA blk key uid
  | .authblkB blk key uid => authBlockBytes c.picc.authB blk key uid
  | .mfRead blk crc => c.picc.read :: blk :: crc.toList
  | .mfWrite blk crc => c.picc.write :: blk :: crc.toList
  | .mfWriteData data crc => data.toList ++ crc.toList

/-- The encoder: the port and the bytes. -/
def encode (c : Config) (i : Instr) : Port × List Byte := (i.port, encodeBytes c i)

/-- The 17-bit word of a bus transaction (R101). -/
def busWord (write : Bool) (addr data : Byte) : BitVec 17 := BitVec.ofBool write ++ addr ++ data

/-- The low `n` bytes of a number, least significant first. -/
def leBytes : Nat → Nat → List Byte
  | 0, _ => []
  | n + 1, w => BitVec.ofNat 8 w :: leBytes n (w / 256)

/-- Where an opcode-table word of `nbits` bits can stand, in the order tried (log entries 7 and 8). A row of one byte
is tried at the host port (with operand bytes of zero), then at the command port, then at the frame port; a row of
17 bits stands at the bus port; a longer row is a card frame, with byte 0 in the most significant position. -/
def tableWordPlaces (c : Config) (nbits w : Nat) : List (Port × List Byte) :=
  let le := leBytes ((nbits + 7) / 8) w
  match le with
  | [b] => [(.host, b :: List.replicate (hostOperandBytes c b) 0), (.command, [b]), (.frame, [b])]
  | [_, _, _] => [(.bus, le)]
  | _ => [(.frame, le.reverse)]

/-- The first place at which the decoder reads an instruction, else the first place. -/
def placeTableWord (c : Config) (nbits w : Nat) : Port × List Byte :=
  let places := tableWordPlaces c nbits w
  let reads (p : Port × List Byte) : Bool := (decode c p.1 p.2).toOption.isSome
  ((places.find? reads).or places.head?).getD (.host, [])

/-- What the decoder reads from an opcode-table word under the default configuration. -/
def decodeTableWord (nbits w : Nat) : Option Instr :=
  let p := placeTableWord Config.default nbits w
  (decode Config.default p.1 p.2).toOption

end Sys2Proof
end

