-- ==== Sys2Proof/Machine/State.lean ====
section
/-! DEFINITION. The state of the engine as plain data (10_state.md Part A), the events, answers and replies that pass its
boundary, the reasons a step can stop, and the state after reset (R31, R321). -/

namespace Sys2Proof.Machine

/-- What one RegisterBus transaction asks for (R72, R73, R101). -/
inductive Request where
  | read (addr : Byte)
  | write (addr : Byte) (data : Byte)
deriving DecidableEq, Repr

/-- The direction of a transaction (R101): read is 0, write is 1. -/
inductive Direction where
  | read
  | write
deriving DecidableEq, Repr

/-- What the environment answers to one transaction (R72 to R74): completion with a byte (the byte a read returns;
a write only completes and its byte is ignored), or failure. Any sequence of answers is possible (R16(3), R62). -/
inductive Answer where
  | done (v : Byte)
  | failed
deriving DecidableEq, Repr

/-- One entry of the event history (R95): direction, address, value written or byte returned, or failure. -/
inductive Event where
  | read (addr : Byte) (v : Byte)
  | write (addr : Byte) (v : Byte)
  | readFailed (addr : Byte)
  | writeFailed (addr : Byte) (v : Byte)
deriving DecidableEq, Repr

/-- The phase of WRITE that runs (R209). -/
inductive Phase where
  | one
  | two
deriving DecidableEq, Repr

/-- Which card frame a private exchange sends (R111 to R117). -/
inductive FrameKind where
  | request
  | anticoll
  | select
  | auth
  | read
  | write
  | writeData
deriving DecidableEq, Repr

/-- What `SEQ = RUN(op, k)` runs (R26): one of the eight host operations, or a private routine run by itself
(log entry 5). -/
inductive Op where
  | init
  | scan
  | identify
  | select
  | authenticate
  | deauthenticate
  | read
  | write (phase : Phase)
  /-- one bus transaction (R141, R142) -/
  | busTransaction
  /-- one write of the command register (R104) -/
  | command
  /-- the exchange of one card frame (R111 to R117, R220) -/
  | exchange (kind : FrameKind)
deriving DecidableEq, Repr

/-- The transactions of INIT, in the order of R168. -/
inductive InitPoint where
  | softReset
  | tMode
  | tPrescaler
  | tReloadL
  | tReloadH
  | txASK
  | mode
  | antennaTest
  | antennaRead
  | antennaWrite
deriving DecidableEq, Repr

/-- The transactions of `calculateCRC`, in the order of R268. -/
inductive CrcPoint where
  | clearRead
  | clearWrite
  | flushRead
  | flushWrite
  | push (i : Nat)
  | start
  | poll
  | resultL
  | resultM
deriving DecidableEq, Repr

/-- The transactions of `RunCommand`, in the order of R220. `control` carries the level just read (`lvl`), `drain`
the clamped level `L` and the index of the byte to read. -/
inductive RunPoint where
  | enable
  | irqRead
  | irqWrite
  | flushRead
  | flushWrite
  | idle
  | push (i : Nat)
  | start
  | sendRead
  | sendWrite
  | poll
  | clearRead
  | clearWrite
  | error
  | level
  | control (lvl : Byte)
  | drain (len i : Nat)
deriving DecidableEq, Repr

/-- The transaction in progress or next: the engine's place in its micro-sequence (R26). -/
inductive Point where
  | init (p : InitPoint)
  /-- the framing write of SCAN (R180), IDENTIFY (R185) and their frames (R111, R112) -/
  | framing
  | crc (p : CrcPoint)
  | run (p : RunPoint)
  | deauthRead
  | deauthWrite
  | busRead (addr : Byte)
  | busWrite (addr v : Byte)
  | command (c : Command)
deriving DecidableEq, Repr

/-- The sequencer position (R26): no operation; the operation, the index `k` of its next transaction and its place
in the micro-sequence; or a bus error taken (R27). -/
inductive Seq where
  | idle
  | run (op : Op) (k : Nat) (at_ : Point)
  | fault
deriving DecidableEq, Repr

/-- The ghost protocol state of R335. READY says whether the host still owes a DEAUTHENTICATE, because an operation failed
in AUTHENTICATED ("after NoTagError or ProtocolError the host restarts from `scan` (from `AUTHENTICATED`, after
`deauth`)"). AUTHENTICATED carries the block address the host named: which sector that is belongs to the card (N18, log
entry 18). -/
inductive Ghost where
  | uninit
  | ready (owesDeauth : Bool)
  | requested
  | identified
  | selected
  | authenticated (blk : Byte)
deriving DecidableEq, Repr

/-- Why an offer was turned away without effect. -/
inductive TurnedAway where
  /-- `SEQ` is not `IDLE` (R92, R121(b), R330). -/
  | busy
  /-- the bus fault is latched (R27, R292). -/
  | busFault
  /-- the word is no instruction of its port (R121(a)), or a bus word whose access the engine never makes (R59, R71,
  R105, R304). -/
  | illegal (r : Reject)
  /-- a frame longer than the FIFO (R224, decision D30); no host operation reaches this. -/
  | frameTooLong
deriving DecidableEq, Repr

/-- What the host was last told (R23, R24, R290(4)). -/
inductive Reply where
  /-- nothing yet: after reset, and while an operation runs. -/
  | nothing
  /-- the offer was refused with no effect. -/
  | turnedAway (why : TurnedAway)
  /-- an operation without a status completed (R160, R200). -/
  | completed
  /-- the byte a lone bus read returned (R141). -/
  | byte (v : Byte)
  /-- a status with the data the operation returns (R24), and the bit count where the result includes it (R192). -/
  | result (status : Status) (data : List Byte) (bits : Option (BitVec 10))
  /-- BusError with the address and direction of the failing transaction (R290). -/
  | busError (addr : Byte) (dir : Direction)
deriving DecidableEq, Repr

/-- A word offered at a port (R125). -/
structure Offer where
  port  : Port
  bytes : List Byte
deriving DecidableEq, Repr

/-- Bytes by address: (address, byte) pairs with strictly rising addresses below 256 (R71). An address that is not
listed has no byte: nothing is known to have been written there (log entry 20). -/
abbrev Memory := List Host.Cell

/-- The canonical form of a memory. -/
abbrev Memory.Wf (m : Memory) : Prop :=
  m.Pairwise (fun a b => a.1 < b.1) ∧ ∀ c ∈ m, c.1 < 256

/-- The machine. The first group is the engine's own state (R21, R26, R27), the second what passes its boundary,
the third the model's bookkeeping. INVENTORY.md lists each field with its rule and reset value. -/
structure State where
  cfg       : Config
  seq       : Seq
  busFault  : Bool
  txBuf     : Bytes 64
  txLen     : BitVec 7
  rxBuf     : Bytes 64
  rxLen     : BitVec 7
  rxBits    : BitVec 10
  status    : Status
  cnt       : BitVec 16
  irqV      : Byte
  errV      : Byte
  tmp       : Byte
  crc       : Bytes 2
  blk       : Byte
  keyB      : Bool
  key       : Bytes 6
  sn        : Bytes 5
  data      : Bytes 16
  /-- answers of the environment not yet consumed, oldest first (R16(3)) -/
  answers   : List Answer
  /-- words offered and not yet taken, oldest first (R16(2)) -/
  inbox     : List Offer
  /-- an engine reset is asked for (R31, R320(a)) -/
  resetLine : Bool
  reply     : Reply
  /-- the event history, newest first (R95) -/
  events    : List Event
  /-- the register space as the engine last wrote it; no rule reads it -/
  mem       : Memory
  /-- no rule reads it (R335) -/
  ghost     : Ghost
  /-- how many times free values have been drawn -/
  fresh     : Nat
deriving DecidableEq, Repr

/-- Reasons to stop with a fault. There is none: the only fatal condition, BusError, has an entry the spec describes
(R290) and is a next state with `SEQ = FAULT`. -/
inductive Fault where
deriving DecidableEq, Repr

/-- Reasons to stop because the spec gives no meaning. -/
inductive Refusal where
  /-- Raised by `exec` alone, for an instruction without a meaning yet. Safe: the machine stops. -/
  | notModelled (mnemonic : String)
  /-- Raised by an operation with a poll loop when a budget of the configuration is 0: "refuse as configuration: both
  budgets must be at least 1" (U15, R9). Safe: no admitted configuration reaches it. -/
  | zeroBudget
  /-- Raised by READ and WRITE when `CFG.trackSession` is true: "only `false` is specified; a model that wants `true`
  must define it itself and is then outside this spec" (U9, R11). Safe: no admitted configuration reaches it. -/
  | sessionTracking
deriving DecidableEq, Repr

/-- The engine after reset (R31, R321): `SEQ = IDLE`, `E.BUSFAULT = 0`, the lengths and the counter 0, ghost state
UNINIT. The registers R31 calls unspecified hold 0 (DESIGN CHOICE, log entry 9); the model's own fields are empty. -/
def State.reset : State where
  cfg       := Config.default
  seq       := .idle
  busFault  := false
  txBuf     := Vector.replicate 64 0
  txLen     := 0
  rxBuf     := Vector.replicate 64 0
  rxLen     := 0
  rxBits    := 0
  status    := .ok
  cnt       := 0
  irqV      := 0
  errV      := 0
  tmp       := 0
  crc       := Vector.replicate 2 0
  blk       := 0
  keyB      := false
  key       := Vector.replicate 6 0
  sn        := Vector.replicate 5 0
  data      := Vector.replicate 16 0
  answers   := []
  inbox     := []
  resetLine := false
  reply     := .nothing
  events    := []
  mem       := []
  ghost     := .uninit
  fresh     := 0

end Sys2Proof.Machine
end

