-- ==== Sys2Proof/Machine/Operands.lean ====
section
/-! DEFINITION. Every value the engine computes: buffer accesses, the bytes the register helpers write, the check byte, the
clamped level and the bit count, the masks of a command, and the payloads of the frames. -/

namespace Sys2Proof.Machine

/-- Byte `i` of a buffer. No rule reads beyond the buffer (R146: `0 <= len(s) <= 64`); the 0 given there is never
used in a state that satisfies `State.Inv`. -/
def byteAt {n : Nat} (b : Bytes n) (i : Nat) : Byte := b[i]?.getD 0

/-- `buf[i ..] <- bytes`, every other byte unchanged. -/
def putBytes {n : Nat} : Bytes n → Nat → List Byte → Bytes n
  | b, _, [] => b
  | b, i, x :: xs => putBytes (b.setIfInBounds i x) (i + 1) xs

/-- `buf[0 .. len-1]`. -/
def firstBytes {n : Nat} (b : Bytes n) (len : Nat) : List Byte := b.toList.take len

/-- The byte `SETBITS` writes back (R143). -/
def setBits (v m : Byte) : Byte := v ||| m

/-- The byte `CLEARBITS` writes back; the complement is taken at 8 bits (R144). -/
def clearBits (v m : Byte) : Byte := v &&& ~~~m

/-- The check byte: the exclusive-or of the four UID bytes (R189). -/
def bcc (b0 b1 b2 b3 : Byte) : Byte := b0 ^^^ b1 ^^^ b2 ^^^ b3

/-- The FIFO level clamped to 1..64, from the whole byte read (R233). -/
def clampLevel (lvl : Byte) : Nat := max 1 (min lvl.toNat Config.fifoSize)

/-- The valid bits of the last received byte, 0 meaning all 8 (R233, R49). -/
def lastBits (c : Config) (control : Byte) : Nat := (control &&& c.bit.rxLastBits).toNat

/-- The bit count of a received frame of `len` bytes (R233). -/
def bitCount (len r : Nat) : Nat := if r ≠ 0 then (len - 1) * 8 + r else len * 8

/-- The framing byte of the short frame: 7 significant bits in the last byte (R180). -/
def framingShort : Byte := 0x07

/-- The framing byte of whole-byte frames: all bits significant (R185). -/
def framingWhole : Byte := 0x00

/-- The interrupt enable set of a command (R103); only Transceive and MFAuthent are run (R220). -/
def irqEn (c : Config) : Command → Byte
  | .mfAuthent => c.bit.irqEnAuthent
  | _ => c.bit.irqEnTransceive

/-- The request bits that end the completion poll, besides timer-expired (R103). -/
def waitMask (c : Config) : Command → Byte
  | .mfAuthent => c.authWaitMask
  | _ => c.bit.waitTransceive

/-- The payload of SELECT before its CRC (R113, R191). -/
def selectPayload (c : Config) (sn : Bytes 5) : List Byte := c.picc.selCL1 :: c.picc.nvbSelect :: sn.toList

/-- The payload of READ before its CRC (R115, R206). -/
def readPayload (c : Config) (blk : Byte) : List Byte := [c.picc.read, blk]

/-- The payload of WRITE phase 1 before its CRC (R116, R210). -/
def writePayload (c : Config) (blk : Byte) : List Byte := [c.picc.write, blk]

/-- The MFAuthent operand block (R114, R196): `authCmd` by the key selector, block, key, and the first four bytes of
the serial number. -/
def authBlock (c : Config) (keyB : Bool) (blk : Byte) (key : Bytes 6) (sn : Bytes 5) : List Byte :=
  (if keyB then c.picc.authB else c.picc.authA) :: blk :: (key.toList ++ sn.toList.take 4)

/-- The serial number latch after AUTHENTICATE: bytes 0 to 3 are the operand, byte 4 is not written (R108). -/
def latchUid (sn : Bytes 5) (uid : Bytes 4) : Bytes 5 := putBytes sn 0 uid.toList

end Sys2Proof.Machine
end

