-- ==== Sys2Proof/Machine/Flags.lean ====
section
/-! DEFINITION. Every test that steers control flow (10_state.md R25): the poll exits, the error mask, the NoTagError
predicate, the antenna test and the verdicts on a response. The engine has no arithmetic flags. -/

namespace Sys2Proof.Machine

/-- Some bit of the mask is set in the value. -/
def anyBit (v m : Byte) : Bool := v &&& m != 0

/-- All bits of the mask are set in the value. -/
def allBits (v m : Byte) : Bool := v &&& m == m

/-- A terminating bit of the completion poll is set: timer-expired, or a bit of the command's wait mask (R228). -/
def pollSees (c : Config) (cmd : Command) (irqV : Byte) : Bool :=
  anyBit irqV c.bit.timerIRq || anyBit irqV (waitMask c cmd)

/-- The CRC-done flag is set (R266). -/
def crcDone (c : Config) (irqV : Byte) : Bool := anyBit irqV c.bit.crcIRq

/-- A bit of the combined error mask is set (R231). -/
def errorMasked (c : Config) (errV : Byte) : Bool := anyBit errV c.bit.errMask

/-- The NoTagError predicate on the last polled request byte (R232). -/
def noTag (c : Config) (cmd : Command) (irqV : Byte) : Bool :=
  match c.noTagRule with
  | .timerAndErrIrq => anyBit irqV c.bit.timerIRq && anyBit irqV c.bit.errIRq
  | .timerOnly => anyBit (irqV &&& irqEn c cmd) c.bit.timerIRq

/-- Both antenna-driver bits are set (R167, decision D15). -/
def antennaIsOn (c : Config) (txControl : Byte) : Bool := allBits txControl c.bit.antennaOn

/-- A write may be made as far as the command register goes: one of the five codes, or another address (R105). -/
def commandAllowed (c : Config) (addr v : Byte) : Bool := addr != c.reg.command || c.cmd.codes.contains v

/-- The engine reads the address: "The engine uses the 20 addresses of rule R59 and no other" (R71), in the direction of
R59's column "access by the engine". -/
def readAllowed (c : Config) (addr : Byte) : Bool := c.reg.readable.contains addr

/-- A write leaves the antenna on: it sets both driver bits, or it is at another address ("never switches the antenna off",
R304). -/
def antennaKept (c : Config) (addr v : Byte) : Bool := addr != c.reg.txControl || antennaIsOn c v

/-- The engine writes the byte at the address (R59, R71, R105, R304). -/
def writeAllowed (c : Config) (addr v : Byte) : Bool :=
  c.reg.writable.contains addr && commandAllowed c addr v && antennaKept c addr v

/-- The identity of IDENTIFY is accepted: five bytes, the last the exclusive-or of the first four (R187, R189). -/
def identityValid (rxLen : BitVec 7) (rxBuf : Bytes 64) : Bool :=
  rxLen == 5 &&
    bcc (byteAt rxBuf 0) (byteAt rxBuf 1) (byteAt rxBuf 2) (byteAt rxBuf 3) == byteAt rxBuf 4

/-- The answer to REQUEST is accepted: exactly 16 bits (R182). -/
def atqaValid (rxBits : BitVec 10) : Bool := rxBits == BitVec.ofNat 10 Config.atqaBits

/-- The response to READ is long enough: at least 16 bytes (R208). -/
def blockReceived (rxLen : BitVec 7) : Bool := decide (Config.blockSize ≤ rxLen.toNat)

/-- The acknowledgment passes: always when `CFG.ackCheck` is false, else 4 bits with the value `PICC.Ack` (R211). -/
def ackPasses (c : Config) (rxBits : BitVec 10) (rxBuf : Bytes 64) : Bool :=
  !c.ackCheck || (rxBits == 4 && (byteAt rxBuf 0 &&& 0x0F) == c.picc.ack)

end Sys2Proof.Machine
end

