-- ==== Sys2Proof/Machine/Ops.lean ====
section
/-! DEFINITION. The named operations over the memory and the registers: the register space as written, the event history,
taking a bus error and the engine reset that alone ends it, staging a frame, and finishing an operation. -/

namespace Sys2Proof.Machine

/-! The register space as the engine last wrote it (R70(1), R73). -/

/-- The byte last written at an address, if one is known. -/
def Memory.read : Memory → Nat → Option Byte
  | [], _ => none
  | c :: m, a => if c.1 = a then some c.2 else Memory.read m a

/-- Write one byte, keeping the addresses rising. -/
def Memory.write : Memory → Nat → Byte → Memory
  | [], a, v => [(a, v)]
  | c :: m, a, v =>
    if a < c.1 then (a, v) :: c :: m
    else if a = c.1 then (a, v) :: m
    else c :: Memory.write m a v

/-- Forget what stands at an address. -/
def Memory.forget (m : Memory) (a : Nat) : Memory := m.filter fun c => c.1 != a

/-- What the engine last wrote at a register address. -/
def State.written (s : State) (addr : Byte) : Option Byte := s.mem.read addr.toNat

/-! Transactions (R72 to R74, R95). -/

/-- The address of a transaction. -/
def Request.addr : Request → Byte
  | .read a => a
  | .write a _ => a

/-- The direction of a transaction (R101). -/
def Request.dir : Request → Direction
  | .read _ => .read
  | .write _ _ => .write

/-- The entry of the history for a transaction that completed (R95). -/
def Request.event : Request → Byte → Event
  | .read a, v => .read a v
  | .write a w, _ => .write a w

/-- The entry of the history for a transaction that failed (R95). -/
def Request.failure : Request → Event
  | .read a => .readFailed a
  | .write a w => .writeFailed a w

/-- The register space after a transaction that completed: a read changes nothing (R72), a write is kept. -/
def Request.effect : Request → Memory → Memory
  | .read _, m => m
  | .write a w, m => m.write a.toNat w

/-- The register space after a transaction that failed: "A failed write may or may not have taken effect" (R74, U11),
so nothing is known of its address any more. -/
def Request.failEffect : Request → Memory → Memory
  | .read _, m => m
  | .write a _, m => m.forget a.toNat

/-- Note a completed transaction in the history (R95). -/
def State.record (s : State) (r : Request) (v : Byte) : State :=
  { s with events := r.event v :: s.events, mem := r.effect s.mem }

/-- The trace: the transactions in the order they happened (R14, R95). -/
def State.trace (s : State) : List Event := s.events.reverse

/-- The operations that are given a key: AUTHENTICATE (R195), and its operand block run by itself (R114). -/
def Op.takesKey : Op → Bool
  | .authenticate => true
  | .exchange .auth => true
  | _ => false

/-! Unspecified registers. -/

/-- The result registers hold no specified value (R29): each takes a free value within its range. -/
def State.forgetResult (s : State) : State :=
  { s with
    status := Config.freeStatus s.fresh
    rxBuf  := Config.freeBytes 64 s.fresh
    rxLen  := BitVec.ofNat 7 (Config.freeLen s.fresh).val
    rxBits := BitVec.ofNat 10 (Config.freeBits s.fresh).val
    fresh  := s.fresh + 1 }

/-! Taking BusError, and the way back. -/

/-- TAKING A BUS ERROR (R290): the failing transaction is recorded and no further one is made; `E.BUSFAULT <- 1`;
`SEQ <- FAULT`; the host receives the address and direction; all result registers, `E.CRC` among them, are
unspecified. -/
def State.takeBusError (s : State) (r : Request) : State :=
  { s with
    events   := r.failure :: s.events
    mem      := r.failEffect s.mem
    busFault := true
    seq      := .fault
    reply    := .busError r.addr r.dir
    status   := Config.freeStatus s.fresh
    rxBuf    := Config.freeBytes 64 s.fresh
    rxLen    := BitVec.ofNat 7 (Config.freeLen s.fresh).val
    rxBits   := BitVec.ofNat 10 (Config.freeBits s.fresh).val
    crc      := Config.freeBytes 2 s.fresh
    fresh    := s.fresh + 1 }

/-- ENGINE RESET (R31, R321), the only way out of FAULT (R292): `SEQ = IDLE`, `E.BUSFAULT = 0`, `E.TXLEN`, `E.RXLEN`,
`E.RXBITS` and `E.CNT` 0, the ghost state UNINIT (R335); every other register of R31 is unspecified, a free value. It
performs no transaction; configuration, history and what stands outside the engine are not touched. -/
def State.engineReset (s : State) : State :=
  { s with
    seq       := .idle
    busFault  := false
    txLen     := 0
    rxLen     := 0
    rxBits    := 0
    cnt       := 0
    status    := Config.freeStatus s.fresh
    txBuf     := Config.freeBytes 64 s.fresh
    rxBuf     := Config.freeBytes 64 (s.fresh + 1)
    irqV      := Config.freeByte s.fresh
    errV      := Config.freeByte (s.fresh + 1)
    tmp       := Config.freeByte (s.fresh + 2)
    crc       := Config.freeBytes 2 s.fresh
    blk       := Config.freeByte (s.fresh + 3)
    keyB      := Config.freeBool s.fresh
    key       := Config.freeBytes 6 s.fresh
    sn        := Config.freeBytes 5 s.fresh
    data      := Config.freeBytes 16 s.fresh
    resetLine := false
    reply     := .nothing
    ghost     := .uninit
    fresh     := s.fresh + 4 }

/-! The key. -/

/-- "Keys are operands supplied by the host on each AUTHENTICATE and are not stored beyond the operation" (R300): `E.KEY`,
and bytes 2 to 7 of `E.TXBUF`, where the operand block holds the key (R196), hold no value any more (R29). DESIGN CHOICE,
unsafe (log entry 37): program P2 of 95_test_vectors.md lists the key bytes in `E.TXBUF` when AUTHENTICATE has ended, and R197
counts `E.TXBUF[0..11]` among the state written; the model sides with R300 and leaves those six bytes free, P2's values among
those they may have. -/
def State.dropKey (s : State) : State :=
  { s with
    key   := Config.freeBytes 6 s.fresh
    txBuf := putBytes s.txBuf 2 (Config.freeBytes 6 (s.fresh + 1)).toList
    fresh := s.fresh + 2 }

/-- An operation that took a key ends. -/
def State.releaseKey (s : State) (op : Op) : State := if op.takesKey then s.dropKey else s

/-! Starting, staging, moving on. -/

/-- Refuse an offer: no transaction and no change of the engine's state (R121); the host is told. -/
def State.turnAway (s : State) (why : TurnedAway) : State := { s with reply := .turnedAway why }

/-- `SEQ <- RUN(op, 0)` at the operation's first transaction (R108). The registers keep what earlier operations left in
them. DESIGN CHOICE, unsafe (log entry 36): R29 says that a register no rule has written in the current operation "holds
no value", and this is the one place where the model settles which value that is (E.CNT, E.IRQV, E.ERRV, E.TMP, E.CRC,
E.BLK, E.KEYT, E.KEY, E.SN, E.DATA; for the buffers log entry 33). No rule reads such a register. -/
def State.enterOp (s : State) (op : Op) (p : Point) : State :=
  { s with seq := .run op 0 p, reply := .nothing }

/-- The next transaction is the one at `p`, with index `k` in the operation's trace (R26). -/
def State.goto (s : State) (op : Op) (k : Nat) (p : Point) : State := { s with seq := .run op k p }

/-- Place bytes at the start of `E.TXBUF` and set `E.TXLEN` to their number (R80; R181, R186, R191, R196, R206,
R210, R212). -/
def State.stage (s : State) (bytes : List Byte) : State :=
  { s with txBuf := putBytes s.txBuf 0 bytes, txLen := BitVec.ofNat 7 bytes.length }

/-- CRC framing (R270): `E.TXBUF[m] <- E.CRC[0]`, `E.TXBUF[m+1] <- E.CRC[1]`, `E.TXLEN <- m + 2`. -/
def State.appendCrc (s : State) : State :=
  { s with txBuf := putBytes s.txBuf s.txLen.toNat s.crc.toList, txLen := s.txLen + 2 }

/-- Report failure with no data (R23, R229): the status, `E.RXLEN <- 0`, `E.RXBITS <- 0`. -/
def State.noData (s : State) (st : Status) : State := { s with status := st, rxLen := 0, rxBits := 0 }

/-! Finishing. -/

/-- INIT and DEAUTHENTICATE complete (R168, R201): no status and no data, the result registers unspecified (R29),
ghost state READY (R335). -/
def State.finishUnit (s : State) : State :=
  { s.forgetResult with seq := .idle, reply := .completed, ghost := .ready false }

/-- The ghost state after a card operation failed (R335): READY, with a DEAUTHENTICATE owed when the session was open, or
was owed already. -/
def Ghost.failed : Ghost → Ghost
  | .authenticated _ => .ready true
  | .ready owes => .ready owes
  | .uninit => .ready false
  | .requested => .ready false
  | .identified => .ready false
  | .selected => .ready false

/-- An operation ends with a status other than Ok: no data is returned, `E.RXLEN = 0`, `E.RXBITS = 0`, the content of
`E.RXBUF` is unspecified (R179(e), decision D37). -/
def State.finishFailed (s : State) (st : Status) (bits : Option (BitVec 10)) (g : Ghost) : State :=
  { s with
    status := st
    rxBuf  := Config.freeBytes 64 s.fresh
    rxLen  := 0
    rxBits := 0
    fresh  := s.fresh + 1
    seq    := .idle
    reply  := .result st [] bits
    ghost  := g }

/-- An operation ends with Ok and its data; the result registers stay as the exchange left them (R29). -/
def State.finishOk (s : State) (data : List Byte) (bits : Option (BitVec 10)) (g : Ghost) : State :=
  { s with status := .ok, seq := .idle, reply := .result .ok data bits, ghost := g }

/-- A lone private routine without a status ends (R140: it writes no `E.STATUS`). -/
def State.finishLone (s : State) (r : Reply) : State := { s with seq := .idle, reply := r }

end Sys2Proof.Machine
end

