-- ==== Sys2Proof/Machine/CardOps.lean ====
section
/-! DEFINITION. What each operation does when its exchange has ended (42_card_operations.md): the verdicts of SCAN,
IDENTIFY, SELECT, AUTHENTICATE and READ, the two phases of WRITE, and the end of a lone frame exchange. Each takes the
state in which the sequencer has left `E.STATUS`, `E.RXBUF`, `E.RXLEN` and `E.RXBITS`. -/

namespace Sys2Proof.Machine

/-- SCAN (R182, R183): Ok only with status Ok and exactly 16 bits, returning 2 bytes; every other outcome, NoTagError
included, is ProtocolError. -/
def State.endScan (s : State) : State :=
  if s.status = .ok ∧ atqaValid s.rxBits then s.finishOk (firstBytes s.rxBuf 2) none .requested
  else s.finishFailed .protocolError none s.ghost.failed

/-- IDENTIFY (R187, R188): a status other than Ok is passed on; Ok needs 5 bytes and a valid check byte. -/
def State.endIdentify (s : State) : State :=
  if s.status = .ok then
    if identityValid s.rxLen s.rxBuf then s.finishOk (firstBytes s.rxBuf 5) none .identified
    else s.finishFailed .protocolError none s.ghost.failed
  else s.finishFailed s.status none s.ghost.failed

/-- SELECT (R192, R193): the status, the received bytes and the bit count; nothing is checked. -/
def State.endSelect (s : State) : State :=
  if s.status = .ok then s.finishOk (firstBytes s.rxBuf s.rxLen.toNat) (some s.rxBits) .selected
  else s.finishFailed s.status (some 0) s.ghost.failed

/-- The verdict of AUTHENTICATE (R197, R198): the status. -/
def State.authVerdict (s : State) : State :=
  if s.status = .ok then s.finishOk [] none (.authenticated s.blk)
  else s.finishFailed s.status none s.ghost.failed

/-- AUTHENTICATE ends with its verdict, and the key is forgotten (R300). -/
def State.endAuthenticate (s : State) : State := s.authVerdict.dropKey

/-- READ (R207, R208): a status other than Ok is passed on; Ok needs at least 16 bytes, and the first 16 are
returned. -/
def State.endRead (s : State) : State :=
  if s.status = .ok then
    if blockReceived s.rxLen then s.finishOk (firstBytes s.rxBuf Config.blockSize) none s.ghost
    else s.finishFailed .protocolError none s.ghost.failed
  else s.finishFailed s.status none s.ghost.failed

/-- The status of a WRITE phase after the optional acknowledgment check (R211, R213). -/
def State.phaseStatus (s : State) : Status :=
  if s.status = .ok ∧ ¬ ackPasses s.cfg s.rxBits s.rxBuf then .protocolError else s.status

/-- WRITE (R213): a phase that does not end Ok ends the operation with its status, and no transaction of phase 2 is
made; phase 1 with Ok stages the 16 data bytes and goes on with their CRC; phase 2 with Ok ends with Ok. -/
def State.endWrite (s : State) (k : Nat) : Phase → State
  | .one =>
    if s.phaseStatus = .ok then
      (s.stage s.data.toList).goto (.write .two) k (.crc .clearRead)
    else s.finishFailed s.phaseStatus none s.ghost.failed
  | .two =>
    if s.phaseStatus = .ok then s.finishOk [] none s.ghost
    else s.finishFailed s.phaseStatus none s.ghost.failed

/-- The verdict of a lone frame exchange: the TransceiveResult (R23). -/
def State.exchangeVerdict (s : State) : State :=
  if s.status = .ok then s.finishOk (firstBytes s.rxBuf s.rxLen.toNat) (some s.rxBits) s.ghost
  else s.finishFailed s.status (some 0) s.ghost

/-- A lone frame exchange ends with its verdict; the key of an operand block is forgotten (R300). -/
def State.endExchange (s : State) (kind : FrameKind) : State := s.exchangeVerdict.releaseKey (.exchange kind)

/-- The end of `RunCommand`, by the operation that called it. The operations that make no exchange never come here;
they end as a lone routine. -/
def State.endRun (s : State) (op : Op) (k : Nat) : State :=
  match op with
  | .scan => s.endScan
  | .identify => s.endIdentify
  | .select => s.endSelect
  | .authenticate => s.endAuthenticate
  | .read => s.endRead
  | .write ph => s.endWrite k ph
  | .exchange kind => s.endExchange kind
  | .init => s.finishLone .completed
  | .deauthenticate => s.finishLone .completed
  | .busTransaction => s.finishLone .completed
  | .command => s.finishLone .completed

end Sys2Proof.Machine
end

