-- ==== Sys2Proof/Machine/Sequencer.lean ====
section
/-! DEFINITION. The micro-sequence of the engine: which transaction it makes at each place (`request`), where an answer
takes it (`advance`), one transaction (`tick`), the next transaction of a running operation (`proceed`), and the acceptance of
an operation (`launch`).
41_init.md R168, 43_transceive_sequencer.md R220, 44_crc.md R268, 42_card_operations.md R201. -/

namespace Sys2Proof.Machine

/-- The command `RunCommand` runs for an operation (R220, R240): MFAuthent for AUTHENTICATE and its operand block,
else Transceive. -/
def Op.runs : Op → Command
  | .authenticate => .mfAuthent
  | .exchange .auth => .mfAuthent
  | _ => .transceive

/-- The framing byte an operation writes (R180, R185, R111, R112). -/
def Op.framing : Op → Byte
  | .scan => framingShort
  | .exchange .request => framingShort
  | _ => framingWhole

/-- The frame that an operation stages after its framing write (R181, R186, R111, R112). -/
def Op.framedFrame (c : Config) : Op → List Byte
  | .scan => [c.picc.request]
  | .exchange .request => [c.picc.request]
  | _ => [c.picc.selCL1, c.picc.nvbAnticoll]

/-! ## Which transaction is made -/

/-- INIT (R162 to R167). -/
def initRequest (s : State) : InitPoint → Request
  | .softReset => .write s.cfg.reg.command (s.cfg.cmd.code .softReset)
  | .tMode => .write s.cfg.reg.tMode s.cfg.initv.tMode
  | .tPrescaler => .write s.cfg.reg.tPrescaler s.cfg.initv.tPrescaler
  | .tReloadL => .write s.cfg.reg.tReloadL s.cfg.initv.tReloadL
  | .tReloadH => .write s.cfg.reg.tReloadH s.cfg.initv.tReloadH
  | .txASK => .write s.cfg.reg.txASK s.cfg.initv.txASK
  | .mode => .write s.cfg.reg.mode s.cfg.initv.mode
  | .antennaTest => .read s.cfg.reg.txControl
  | .antennaRead => .read s.cfg.reg.txControl
  | .antennaWrite => .write s.cfg.reg.txControl (setBits s.tmp s.cfg.bit.antennaOn)

/-- `calculateCRC` (R260 to R267). -/
def crcRequest (s : State) : CrcPoint → Request
  | .clearRead => .read s.cfg.reg.divIrq
  | .clearWrite => .write s.cfg.reg.divIrq (clearBits s.tmp s.cfg.bit.crcIRq)
  | .flushRead => .read s.cfg.reg.fifoLevel
  | .flushWrite => .write s.cfg.reg.fifoLevel (setBits s.tmp s.cfg.bit.flushBuffer)
  | .push i => .write s.cfg.reg.fifoData (byteAt s.txBuf i)
  | .start => .write s.cfg.reg.command (s.cfg.cmd.code .calcCrc)
  | .poll => .read s.cfg.reg.divIrq
  | .resultL => .read s.cfg.reg.crcResultL
  | .resultM => .read s.cfg.reg.crcResultM

/-- `RunCommand(cmd)` (R221 to R234). -/
def runRequest (s : State) (cmd : Command) : RunPoint → Request
  | .enable => .write s.cfg.reg.comIEn (irqEn s.cfg cmd ||| s.cfg.bit.irqInv)
  | .irqRead => .read s.cfg.reg.comIrq
  | .irqWrite => .write s.cfg.reg.comIrq (clearBits s.tmp s.cfg.bit.set1)
  | .flushRead => .read s.cfg.reg.fifoLevel
  | .flushWrite => .write s.cfg.reg.fifoLevel (setBits s.tmp s.cfg.bit.flushBuffer)
  | .idle => .write s.cfg.reg.command (s.cfg.cmd.code .idle)
  | .push i => .write s.cfg.reg.fifoData (byteAt s.txBuf i)
  | .start => .write s.cfg.reg.command (s.cfg.cmd.code cmd)
  | .sendRead => .read s.cfg.reg.bitFraming
  | .sendWrite => .write s.cfg.reg.bitFraming (setBits s.tmp s.cfg.bit.startSend)
  | .poll => .read s.cfg.reg.comIrq
  | .clearRead => .read s.cfg.reg.bitFraming
  | .clearWrite => .write s.cfg.reg.bitFraming (clearBits s.tmp s.cfg.bit.startSend)
  | .error => .read s.cfg.reg.error
  | .level => .read s.cfg.reg.fifoLevel
  | .control _ => .read s.cfg.reg.control
  | .drain _ _ => .read s.cfg.reg.fifoData

/-- The transaction at a place of an operation (R26). -/
def request (s : State) (op : Op) : Point → Request
  | .init p => initRequest s p
  | .framing => .write s.cfg.reg.bitFraming op.framing
  | .crc p => crcRequest s p
  | .run p => runRequest s op.runs p
  | .deauthRead => .read s.cfg.reg.status2
  | .deauthWrite => .write s.cfg.reg.status2 (clearBits s.tmp s.cfg.bit.crypto1On)
  | .busRead a => .read a
  | .busWrite a v => .write a v
  | .command c => .write s.cfg.reg.command (s.cfg.cmd.code c)

/-! ## Where an answer leads

Each takes the state with the completed transaction already recorded, the byte the environment returned, and the
index `k` of the following transaction. -/

/-- INIT goes on (R168). "`E.TMP` holds the last TX-control value read" (R323): the byte of the antenna test stands there
when the helper does not run (log entry 21). -/
def initAdvance (s : State) (op : Op) (k : Nat) (v : Byte) : InitPoint → State
  | .softReset => s.goto op k (.init .tMode)
  | .tMode => s.goto op k (.init .tPrescaler)
  | .tPrescaler => s.goto op k (.init .tReloadL)
  | .tReloadL => s.goto op k (.init .tReloadH)
  | .tReloadH => s.goto op k (.init .txASK)
  | .txASK => s.goto op k (.init .mode)
  | .mode => s.goto op k (.init .antennaTest)
  | .antennaTest =>
    if antennaIsOn s.cfg v then { s with tmp := v }.finishUnit else { s with tmp := v }.goto op k (.init .antennaRead)
  | .antennaRead => { s with tmp := v }.goto op k (.init .antennaWrite)
  | .antennaWrite => s.finishUnit

/-- Enter `RunCommand`: a frame longer than the FIFO is refused before any transaction (R224, decision D30). -/
def enterRun (s : State) (op : Op) (k : Nat) : State :=
  if Config.fifoSize < s.txLen.toNat then s.finishLone (.turnedAway .frameTooLong)
  else s.goto op k (.run .enable)

/-- The next place of the CRC push loop from byte `i` on (R262, R146). -/
def crcPush (s : State) (op : Op) (k i : Nat) : State :=
  if i < s.txLen.toNat then s.goto op k (.crc (.push i))
  else s.goto op k (.crc .start)

/-- `calculateCRC` goes on (R268). Both ways out of the poll lead to the result registers (R266, R269); the two
bytes are appended as read and the exchange follows (R270). -/
def crcAdvance (s : State) (op : Op) (k : Nat) (v : Byte) : CrcPoint → State
  | .clearRead => { s with tmp := v }.goto op k (.crc .clearWrite)
  | .clearWrite => s.goto op k (.crc .flushRead)
  | .flushRead => { s with tmp := v }.goto op k (.crc .flushWrite)
  | .flushWrite => crcPush s op k 0
  | .push i => crcPush s op k (i + 1)
  | .start => { s with cnt := s.cfg.crcBudget }.goto op k (.crc .poll)
  | .poll =>
    let s' : State := { s with irqV := v, cnt := s.cnt - 1 }
    if s'.cnt = 0 ∨ crcDone s.cfg v then s'.goto op k (.crc .resultL) else s'.goto op k (.crc .poll)
  | .resultL => { s with crc := putBytes s.crc 0 [v] }.goto op k (.crc .resultM)
  | .resultM => enterRun ({ s with crc := putBytes s.crc 1 [v] }.appendCrc) op k

/-- The next place of the staging loop from byte `i` on (R224, R146). -/
def runPush (s : State) (op : Op) (k i : Nat) : State :=
  if i < s.txLen.toNat then s.goto op k (.run (.push i))
  else s.goto op k (.run .start)

/-- After one poll read (R228, R229): a counter at 0 is exhaustion whatever the bits say; else a terminating bit leads
to step 3; else the loop goes round. -/
def afterPoll (s : State) (op : Op) (k : Nat) : State :=
  if s.cnt = 0 then (s.noData .protocolError).endRun op k
  else if pollSees s.cfg op.runs s.irqV then s.goto op k (.run .clearRead)
  else s.goto op k (.run .poll)

/-- After the error register is read (R231, R232, R241): a masked bit is ProtocolError; then the NoTagError predicate;
else Ok, which for MFAuthent ends the run without data and for Transceive goes on to step 4. -/
def afterError (s : State) (op : Op) (k : Nat) : State :=
  if errorMasked s.cfg s.errV then (s.noData .protocolError).endRun op k
  else if noTag s.cfg op.runs s.irqV then (s.noData .noTagError).endRun op k
  else if op.runs = .transceive then { s with status := .ok }.goto op k (.run .level)
  else (s.noData .ok).endRun op k

/-- After the control register is read (R233): the clamped level and the bit count, then the drain. -/
def afterControl (s : State) (op : Op) (k : Nat) (lvl control : Byte) : State :=
  let len := clampLevel lvl
  { s with rxBits := BitVec.ofNat 10 (bitCount len (lastBits s.cfg control)) }.goto op k (.run (.drain len 0))

/-- After one byte is drained (R234, R147): `E.RXLEN` is written when the last one is in. -/
def afterDrain (s : State) (op : Op) (k len i : Nat) : State :=
  if i + 1 < len then s.goto op k (.run (.drain len (i + 1)))
  else { s with rxLen := BitVec.ofNat 7 len }.endRun op k

/-- `RunCommand` goes on (R220). Start-send is set for Transceive only (R226). -/
def runAdvance (s : State) (op : Op) (k : Nat) (v : Byte) : RunPoint → State
  | .enable => s.goto op k (.run .irqRead)
  | .irqRead => { s with tmp := v }.goto op k (.run .irqWrite)
  | .irqWrite => s.goto op k (.run .flushRead)
  | .flushRead => { s with tmp := v }.goto op k (.run .flushWrite)
  | .flushWrite => s.goto op k (.run .idle)
  | .idle => runPush s op k 0
  | .push i => runPush s op k (i + 1)
  | .start =>
    if op.runs = .transceive then s.goto op k (.run .sendRead)
    else { s with cnt := s.cfg.transceiveBudget }.goto op k (.run .poll)
  | .sendRead => { s with tmp := v }.goto op k (.run .sendWrite)
  | .sendWrite => { s with cnt := s.cfg.transceiveBudget }.goto op k (.run .poll)
  | .poll => afterPoll { s with irqV := v, cnt := s.cnt - 1 } op k
  | .clearRead => { s with tmp := v }.goto op k (.run .clearWrite)
  | .clearWrite => s.goto op k (.run .error)
  | .error => afterError { s with errV := v } op k
  | .level => s.goto op k (.run (.control v))
  | .control lvl => afterControl s op k lvl v
  | .drain len i => afterDrain { s with rxBuf := putBytes s.rxBuf i [v] } op k len i

/-- Where the answer to the transaction at a place leads. -/
def advance (s : State) (op : Op) (k : Nat) (v : Byte) : Point → State
  | .init p => initAdvance s op k v p
  | .framing => enterRun (s.stage (op.framedFrame s.cfg)) op k
  | .crc p => crcAdvance s op k v p
  | .run p => runAdvance s op k v p
  | .deauthRead => { s with tmp := v }.goto op k .deauthWrite
  | .deauthWrite => s.finishUnit
  | .busRead _ => s.finishLone (.byte v)
  | .busWrite _ _ => s.finishLone .completed
  | .command _ => s.finishLone .completed

/-! ## Transactions in sequence -/

/-- The transaction at a place meets its answer: completion is recorded and the sequence goes on with the next index
(R26, R95); failure is BusError (R290), which ends the operation, so a key it took is forgotten (R300). -/
def transact (s : State) (op : Op) (k : Nat) (p : Point) : Answer → State
  | .done v => advance (s.record (request s op p) v) op (k + 1) v p
  | .failed => (s.takeBusError (request s op p)).releaseKey op

/-- One transaction. In IDLE and FAULT none is made (R292). -/
def tick (s : State) (a : Answer) : State :=
  match s.seq with
  | .run op k p => transact s op k p a
  | .idle => s
  | .fault => s

/-- An operation runs. -/
def State.running (s : State) : Bool :=
  match s.seq with
  | .run _ _ _ => true
  | .idle => false
  | .fault => false

/-- What the environment answers to the next transaction: the oldest answer delivered, else a free draw (R16(3), R62,
R72 to R74; log entry 3). -/
def State.nextAnswer (s : State) : Answer :=
  match s.answers with
  | a :: _ => a
  | [] =>
    match Config.freeAnswer s.fresh with
    | some v => .done v
    | none => .failed

/-- The state with that answer drawn. -/
def State.drawn (s : State) : State :=
  match s.answers with
  | _ :: rest => { s with answers := rest }
  | [] => { s with fresh := s.fresh + 1 }

/-- The running operation makes its next transaction; in IDLE and FAULT nothing happens (R16: "one step is one RegisterBus
transaction or one internal transition"; R26, R350, decision D26). -/
def State.proceed (s : State) : State := if s.running then tick s.drawn s.nextAnswer else s

/-! ## Acceptance -/

/-- Why an operation with poll loops cannot run under the configuration: a budget is 0 (U15). -/
def pollRefusal (c : Config) : Option Refusal := if c.budgetsOk then none else some .zeroBudget

/-- Why READ and WRITE cannot run under the configuration: session tracking is not specified (U9), or U15. -/
def sessionRefusal (c : Config) : Option Refusal :=
  if c.trackSession then some .sessionTracking else pollRefusal c

/-- Accept an instruction: one internal transition, which latches the operands and sets `SEQ <- RUN(op, 0)` (R108,
R179(a)); its transactions are the following steps. It is accepted only with `SEQ = IDLE` and `E.BUSFAULT = 0`; otherwise
it is turned away without effect (R92, R121(b), R292). -/
def launch (s : State) (refusal : Option Refusal) (start : State → State) : Host.Outcome State Fault Refusal :=
  if s.busFault then .next (s.turnAway .busFault)
  else if s.seq = .idle then
    match refusal with
    | some r => .refused r
    | none => .next (start s)
  else .next (s.turnAway .busy)

end Sys2Proof.Machine
end

