-- ==== Sys2Proof/Machine/BusOps.lean ====
section
/-! DEFINITION. The two bus transactions run by themselves (40_bus_primitives.md R141, R142; log entries 5 and 6). -/

namespace Sys2Proof.Machine

/-- One `RegRead` (R141). "The engine uses the 20 addresses of rule R59 and no other" (R71): a bus word that reads
elsewhere, or where R59 gives no read, is turned away with no transaction. -/
def startRdreg (addr : Byte) (s : State) : State :=
  if readAllowed s.cfg addr then s.enterOp .busTransaction (.busRead addr)
  else s.turnAway (.illegal .notAccessed)

/-- One `RegWrite` (R142). A bus word that writes at another address than those R59 gives the engine to write (R71), that
writes to `REG.Command` any "value other than the five of rule R104" (R105), or that writes to `REG.TxControl` with an
antenna-driver bit clear (the engine "never switches the antenna off", R304), is turned away with no transaction. -/
def startWrreg (addr v : Byte) (s : State) : State :=
  if writeAllowed s.cfg addr v then s.enterOp .busTransaction (.busWrite addr v)
  else s.turnAway (.illegal .notAccessed)

/-- RDREG (R141): one read transaction at the address, where R71 allows it; the byte is whatever the bus returns. The data
field of the word is the byte returned (R101), so it carries nothing when the read is issued (log entry 6). -/
def execRdreg (addr : Byte) (_data : Byte) (s : State) : Host.Outcome State Fault Refusal :=
  launch s none (startRdreg addr)

/-- WRREG (R142): one write transaction of the byte at the address, where R71, R105 and R304 allow it. -/
def execWrreg (addr v : Byte) (s : State) : Host.Outcome State Fault Refusal :=
  launch s none (startWrreg addr v)

end Sys2Proof.Machine
end

