-- ==== Sys2Proof/Machine/CommandOps.lean ====
section
/-! DEFINITION. The five transceiver commands run by themselves (30_encoding.md R104): each is one write of its code to
`REG.Command`, which "starts that command and ends the one active before" in the chip (10_state.md R41; log entries 5
and 29). -/

namespace Sys2Proof.Machine

/-- `RegWrite(REG.Command, CMD.<command>)` (R104). -/
def startCommand (c : Command) (s : State) : State := s.enterOp .command (.command c)

/-- CMD_IDLE (R223): cancel the running command. -/
def execCmdIdle (s : State) : Host.Outcome State Fault Refusal := launch s none (startCommand .idle)

/-- CMD_CALCCRC (R263): start the CRC coprocessor. -/
def execCmdCalcCrc (s : State) : Host.Outcome State Fault Refusal := launch s none (startCommand .calcCrc)

/-- CMD_TRANSCEIVE (R225). -/
def execCmdTransceive (s : State) : Host.Outcome State Fault Refusal := launch s none (startCommand .transceive)

/-- CMD_MFAUTHENT (R225, R240). -/
def execCmdMfAuthent (s : State) : Host.Outcome State Fault Refusal := launch s none (startCommand .mfAuthent)

/-- CMD_SOFTRESET (R162). -/
def execCmdSoftReset (s : State) : Host.Outcome State Fault Refusal := launch s none (startCommand .softReset)

end Sys2Proof.Machine
end

