-- ==== Sys2Proof/Machine/FrameOps.lean ====
section
/-! DEFINITION. The eight card frames run by themselves (30_encoding.md R111 to R117): the frame is staged in `E.TXBUF`
and sent by `transceiveCard` (43_transceive_sequencer.md R220) or, for the operand block, handed to `RunAuthent` (R240).
REQUEST and ANTICOLL include the framing write their rules ask for; the CRC bytes are those of the frame (log entries 5
and 28). -/

namespace Sys2Proof.Machine

/-- Stage the bytes of a frame and send it with the framing the register holds (R338). -/
def startFrame (i : Instr) (kind : FrameKind) (s : State) : State :=
  (s.stage (encodeBytes s.cfg i)).enterOp (.exchange kind) (.run .enable)

/-- Send a frame after writing its framing (R111, R112); the frame is staged when that write has completed, as in SCAN and
IDENTIFY (R183, R188). -/
def startFramed (kind : FrameKind) (s : State) : State := s.enterOp (.exchange kind) .framing

/-- REQUEST (R111): 7 significant bits. -/
def execRequest (s : State) : Host.Outcome State Fault Refusal :=
  launch s (pollRefusal s.cfg) (startFramed .request)

/-- ANTICOLL (R112). -/
def execAnticoll (s : State) : Host.Outcome State Fault Refusal :=
  launch s (pollRefusal s.cfg) (startFramed .anticoll)

/-- SELECT_FRAME (R113). -/
def execSelectFrame (sn : Bytes 5) (crc : Bytes 2) (s : State) : Host.Outcome State Fault Refusal :=
  launch s (pollRefusal s.cfg) (startFrame (.selectFrame sn crc) .select)

/-- AUTHBLK_A (R114): the operand block with key A. -/
def execAuthblkA (blk : Byte) (key : Bytes 6) (uid : Bytes 4) (s : State) : Host.Outcome State Fault Refusal :=
  launch s (pollRefusal s.cfg) (startFrame (.authblkA blk key uid) .auth)

/-- AUTHBLK_B (R114): the operand block with key B. -/
def execAuthblkB (blk : Byte) (key : Bytes 6) (uid : Bytes 4) (s : State) : Host.Outcome State Fault Refusal :=
  launch s (pollRefusal s.cfg) (startFrame (.authblkB blk key uid) .auth)

/-- MFREAD (R115). -/
def execMfRead (blk : Byte) (crc : Bytes 2) (s : State) : Host.Outcome State Fault Refusal :=
  launch s (pollRefusal s.cfg) (startFrame (.mfRead blk crc) .read)

/-- MFWRITE (R116). -/
def execMfWrite (blk : Byte) (crc : Bytes 2) (s : State) : Host.Outcome State Fault Refusal :=
  launch s (pollRefusal s.cfg) (startFrame (.mfWrite blk crc) .write)

/-- MFWRITE_DATA (R117). The card's being "primed to accept a data block" is not held by the engine (R61(f)), so the frame
is sent wherever it is asked for (log entry 19); inside WRITE its place is that of the sequence (R209, R213). -/
def execMfWriteData (data : Bytes 16) (crc : Bytes 2) (s : State) : Host.Outcome State Fault Refusal :=
  launch s (pollRefusal s.cfg) (startFrame (.mfWriteData data crc) .writeData)

end Sys2Proof.Machine
end

