-- ==== Sys2Proof/Machine/HostOps.lean ====
section
/-! DEFINITION. The eight host operations (41_init.md, 42_card_operations.md): what each latches (30_encoding.md R108),
what it stages before its first transaction, and the place its sequence starts. The sequence itself is `Sequencer.lean`, its end `CardOps.lean`. -/

namespace Sys2Proof.Machine

/-- INIT (R168): no operands; the first transaction is the SoftReset write. -/
def startInit (s : State) : State := s.enterOp .init (.init .softReset)

/-- SCAN (R183): the framing write comes first; the REQUEST frame is staged when it has completed. -/
def startScan (s : State) : State := s.enterOp .scan .framing

/-- IDENTIFY (R188): the framing write comes first; the anticollision frame is staged when it has completed. -/
def startIdentify (s : State) : State := s.enterOp .identify .framing

/-- SELECT (R192): all five bytes are latched; the payload is staged and its CRC asked for. -/
def startSelect (sn : Bytes 5) (s : State) : State :=
  ({ s with sn := sn }.stage (selectPayload s.cfg sn)).enterOp .select (.crc .clearRead)

/-- AUTHENTICATE (R197): selector, block, key and four UID bytes are latched; the operand block is staged. -/
def startAuthenticate (keyB : Bool) (blk : Byte) (key : Bytes 6) (uid : Bytes 4) (s : State) : State :=
  let sn := latchUid s.sn uid
  ({ s with keyB := keyB, blk := blk, key := key, sn := sn }.stage (authBlock s.cfg keyB blk key sn)).enterOp
    .authenticate (.run .enable)

/-- DEAUTHENTICATE (R201). -/
def startDeauthenticate (s : State) : State := s.enterOp .deauthenticate .deauthRead

/-- READ (R207): the block address is latched; the payload is staged and its CRC asked for. -/
def startRead (blk : Byte) (s : State) : State :=
  ({ s with blk := blk }.stage (readPayload s.cfg blk)).enterOp .read (.crc .clearRead)

/-- WRITE (R213): block address and data are latched; the phase-1 payload is staged and its CRC asked for. -/
def startWrite (blk : Byte) (data : Bytes 16) (s : State) : State :=
  ({ s with blk := blk, data := data }.stage (writePayload s.cfg blk)).enterOp (.write .one) (.crc .clearRead)

/-- INIT (R160 to R170). -/
def execInit (s : State) : Host.Outcome State Fault Refusal := launch s none startInit

/-- SCAN (R180 to R183). -/
def execScan (s : State) : Host.Outcome State Fault Refusal := launch s (pollRefusal s.cfg) startScan

/-- IDENTIFY (R185 to R189). -/
def execIdentify (s : State) : Host.Outcome State Fault Refusal := launch s (pollRefusal s.cfg) startIdentify

/-- SELECT (R190 to R193). -/
def execSelect (sn : Bytes 5) (s : State) : Host.Outcome State Fault Refusal :=
  launch s (pollRefusal s.cfg) (startSelect sn)

/-- AUTHENTICATE (R195 to R198). -/
def execAuthenticate (keyB : Bool) (blk : Byte) (key : Bytes 6) (uid : Bytes 4) (s : State) :
    Host.Outcome State Fault Refusal :=
  launch s (pollRefusal s.cfg) (startAuthenticate keyB blk key uid)

/-- DEAUTHENTICATE (R200, R201). -/
def execDeauthenticate (s : State) : Host.Outcome State Fault Refusal := launch s none startDeauthenticate

/-- READ (R205 to R208). -/
def execRead (blk : Byte) (s : State) : Host.Outcome State Fault Refusal :=
  launch s (sessionRefusal s.cfg) (startRead blk)

/-- WRITE (R209 to R213). -/
def execWrite (blk : Byte) (data : Bytes 16) (s : State) : Host.Outcome State Fault Refusal :=
  launch s (sessionRefusal s.cfg) (startWrite blk data)

end Sys2Proof.Machine
end

