-- ==== Sys2Proof/Machine/Dispatch.lean ====
section
/-! DEFINITION. One arm per instruction, each the call of its meaning. -/

namespace Sys2Proof.Machine

def exec (i : Instr) (s : State) : Host.Outcome State Fault Refusal :=
  match i with
  -- HOST (R106)
  | .init => Sys2Proof.Machine.execInit s
  | .scan => Sys2Proof.Machine.execScan s
  | .identify => Sys2Proof.Machine.execIdentify s
  | .select sn => Sys2Proof.Machine.execSelect sn s
  | .authenticate keyB blk key uid => Sys2Proof.Machine.execAuthenticate keyB blk key uid s
  | .deauthenticate => Sys2Proof.Machine.execDeauthenticate s
  | .read blk => Sys2Proof.Machine.execRead blk s
  | .write blk data => Sys2Proof.Machine.execWrite blk data s
  -- BUS (R101)
  | .rdreg addr data => Sys2Proof.Machine.execRdreg addr data s
  | .wrreg addr data => Sys2Proof.Machine.execWrreg addr data s
  -- PCDCMD (R104)
  | .cmdIdle => Sys2Proof.Machine.execCmdIdle s
  | .cmdCalcCrc => Sys2Proof.Machine.execCmdCalcCrc s
  | .cmdTransceive => Sys2Proof.Machine.execCmdTransceive s
  | .cmdMfAuthent => Sys2Proof.Machine.execCmdMfAuthent s
  | .cmdSoftReset => Sys2Proof.Machine.execCmdSoftReset s
  -- card frames (R111 to R117)
  | .request => Sys2Proof.Machine.execRequest s
  | .anticoll => Sys2Proof.Machine.execAnticoll s
  | .selectFrame sn crc => Sys2Proof.Machine.execSelectFrame sn crc s
  | .authblkA blk key uid => Sys2Proof.Machine.execAuthblkA blk key uid s
  | .authblkB blk key uid => Sys2Proof.Machine.execAuthblkB blk key uid s
  | .mfRead blk crc => Sys2Proof.Machine.execMfRead blk crc s
  | .mfWrite blk crc => Sys2Proof.Machine.execMfWrite blk crc s
  | .mfWriteData data crc => Sys2Proof.Machine.execMfWriteData data crc s

end Sys2Proof.Machine
end

