-- ==== Sys2Proof/Machine/Ports.lean ====
section
/-! DEFINITION. What reaches the engine from outside (00_scope.md R16): offered words, answers of the environment and a
request for engine reset; and how the engine takes the next one. -/

namespace Sys2Proof.Machine

/-- Offer a word at a port, after those already offered (R16(2), R106). -/
def State.offer (s : State) (p : Port) (bytes : List Byte) : State :=
  { s with inbox := s.inbox ++ [⟨p, bytes⟩] }

/-- Deliver answers of the environment, after those already delivered (R16(3), R72 to R74). -/
def State.deliver (s : State) (as : List Answer) : State := { s with answers := s.answers ++ as }

/-- Ask for an engine reset (R31, R320(a)). -/
def State.askReset (s : State) : State := { s with resetLine := true }

/-- What the engine does next. -/
inductive Next where
  /-- engine reset comes first: it is taken between transactions (R344, log entry 26). -/
  | reset
  /-- the oldest offer is an instruction of its port. -/
  | run (i : Instr)
  /-- the oldest offer is no instruction (R121(a)). -/
  | illegal (r : Reject)
  /-- nothing is offered: the running operation makes its next transaction (R26), or the engine rests. -/
  | goOn
deriving DecidableEq, Repr

/-- Read the oldest offer with the decoder. -/
def State.nextThing (s : State) : Next :=
  if s.resetLine then .reset
  else match s.inbox with
    | [] => .goOn
    | o :: _ =>
      match decode s.cfg o.port o.bytes with
      | .ok i => .run i
      | .error r => .illegal r

/-- The state with the oldest offer taken. -/
def State.taken (s : State) : State := { s with inbox := s.inbox.tail }

/-- Place a word as the only offer, with nothing before it (log entry 24). -/
def State.placeOffer (s : State) (p : Port × List Byte) : State :=
  { s with inbox := [⟨p.1, p.2⟩], resetLine := false }

end Sys2Proof.Machine
end

