-- ==== Sys2Proof/Machine/Step.lean ====
section
/-! DEFINITION. One step of the machine: "one RegisterBus transaction or one internal transition" (00_scope.md R16, decision
D26). The internal transitions are engine reset, the acceptance of an instruction and the refusal of an offer. -/

namespace Sys2Proof.Machine

/-- One step. An offer is taken before the running operation goes on, and refused if one runs (R92); a word that is no
instruction is refused without effect (R121(a)). With nothing offered the running operation makes its next transaction, and
an engine at rest stays as it is (log entry 4). -/
def step (s : State) : Host.Outcome State Fault Refusal :=
  match s.nextThing with
  | .reset => .next s.engineReset
  | .run i => exec i s.taken
  | .illegal r => .next (s.taken.turnAway (.illegal r))
  | .goOn => .next s.proceed

/-- The state in which the very next step takes the opcode-table word. -/
def State.withFetchWord (s : State) (nbits w : Nat) : State := s.placeOffer (placeTableWord s.cfg nbits w)

end Sys2Proof.Machine
end

