-- ==== Sys2Proof/Machine/Crc.lean ====
section
/-! DEFINITION. The function the CRC coprocessor is expected to compute (44_crc.md R272). It is a property of the chip, not of
the engine: the engine appends the two bytes it reads, whatever they are (R270, decision D33); no meaning calls it. -/

namespace Sys2Proof.Machine

/-- One bit of the division by x^16 + x^12 + x^5 + 1, reflected (R272). -/
def crcBit (crc : BitVec 16) : BitVec 16 :=
  if crc.getLsbD 0 then (crc >>> 1) ^^^ 0x8408 else crc >>> 1

/-- One byte: into the low byte, then eight bits (R272). -/
def crcByte (crc : BitVec 16) (b : Byte) : BitVec 16 :=
  crcBit (crcBit (crcBit (crcBit (crcBit (crcBit (crcBit (crcBit (crc ^^^ b.zeroExtend 16))))))))

/-- The CRC of a byte sequence from a preset (R272, R309). -/
def crcFrom (preset : BitVec 16) (l : List Byte) : BitVec 16 := l.foldl crcByte preset

/-- `CRC_A` (R272): preset 0x6363, no final inversion. -/
def crcA (l : List Byte) : BitVec 16 := crcFrom 0x6363 l

/-- The two CRC bytes in frame order, low byte first (R81, R273). -/
def crcBytes (x : BitVec 16) : List Byte := [x.extractLsb' 0 8, x.extractLsb' 8 8]

/-- The preset that bits 1:0 of the mode register select (R51, R309). -/
def crcPreset (mode : Byte) : BitVec 16 :=
  match (mode &&& 3).toNat with
  | 0 => 0x0000
  | 1 => 0x6363
  | 2 => 0xA671
  | _ => 0xFFFF

end Sys2Proof.Machine
end

