-- ==== Sys2Proof/Safety.lean ====
section
/-! DEFINITION. What counts as a good state and a good run, in the terms the obligations use: the invariant of the machine, the
host's ordering discipline, the registers an instruction may access, the order of commands, and the bounds on the number of
transactions. Nothing here is read by the machine. -/

namespace Sys2Proof.Machine

/-! ## Acceptance and tapes -/

/-- The engine accepts an operation (R179(a)). -/
abbrev State.Accepting (s : State) : Prop := s.seq = .idle ∧ s.busFault = false

/-- No answer of the tape is a failure. -/
abbrev NoFailure (as : List Answer) : Prop := Answer.failed ∉ as

/-- Completion answers with the given bytes. -/
def dones (l : List Byte) : List Answer := l.map .done

/-! ## Runs

A step makes one transaction. An instruction as a whole is its acceptance and the transactions that follow. -/

/-- One transaction for each answer, until the operation has ended or no answer is left; answers left over stay. -/
def drive : List Answer → State → State
  | [], s => { s with answers := [] }
  | a :: as, s => if s.running then drive as (tick s a) else { s with answers := a :: as }

/-- Go on over the answers on the tape. -/
def State.resume (s : State) : State := drive s.answers s

/-- `n` steps of the machine. -/
def steps : Nat → State → Host.Outcome State Fault Refusal
  | 0, s => .next s
  | n + 1, s =>
    match step s with
    | .next t => steps n t
    | .fault f => .fault f
    | .refused r => .refused r

/-- An instruction run in an accepting state: it is accepted, and the engine makes one transaction for each answer on the
tape until the operation has ended or no answer is left. `StepGoesOnWithTheRunningOperation` says that these are the steps
of the machine. -/
abbrev Runs (i : Instr) (s t : State) : Prop :=
  s.Accepting ∧ ∃ u : State, exec i s = .next u ∧ u.resume = t

/-- What an instruction can lead to: its own next state, and the state its run reaches. -/
abbrev Reaches (i : Instr) (s t : State) : Prop := exec i s = .next t ∨ Runs i s t

/-! ## The invariant -/

/-- The operations that run `RunCommand` (R220). -/
def Op.exchanges : Op → Bool
  | .init => false
  | .deauthenticate => false
  | .busTransaction => false
  | .command => false
  | _ => true

/-- The payload length whose CRC an operation asks for (R262): 7, 2, 2 and 16 bytes; 0 where none is asked for. -/
def Op.crcPayload : Op → Nat
  | .select => 7
  | .read => 2
  | .write .one => 2
  | .write .two => 16
  | _ => 0

/-- The length of the frame an operation sends (R111 to R117). -/
def Op.frameLength : Op → Nat
  | .scan => 1
  | .identify => 2
  | .select => 9
  | .authenticate => 12
  | .read => 4
  | .write .one => 4
  | .write .two => 18
  | .exchange .request => 1
  | .exchange .anticoll => 2
  | .exchange .select => 9
  | .exchange .auth => 12
  | .exchange .read => 4
  | .exchange .write => 4
  | .exchange .writeData => 18
  | _ => 0

/-- The operations that start with a framing write (R180, R185, R111, R112). -/
def Op.frames : Op → Bool
  | .scan => true
  | .identify => true
  | .exchange .request => true
  | .exchange .anticoll => true
  | _ => false

/-- A place inside `calculateCRC` is consistent with the staged payload. -/
def crcPlaceOk (s : State) : CrcPoint → Bool
  | .push i => decide (i < s.txLen.toNat)
  | .poll => s.cnt != 0
  | _ => true

/-- A place inside `RunCommand` is consistent with the staged frame, the command, the counter and the bit count. -/
def runPlaceOk (s : State) (op : Op) : RunPoint → Bool
  | .push i => decide (i < s.txLen.toNat)
  | .sendRead => op.runs == .transceive
  | .sendWrite => op.runs == .transceive
  | .poll => s.cnt != 0
  | .clearRead => s.cnt != 0
  | .clearWrite => s.cnt != 0
  | .error => s.cnt != 0
  | .level => op.runs == .transceive && s.status == .ok
  | .control _ => op.runs == .transceive && s.status == .ok
  | .drain len i =>
    op.runs == .transceive && s.status == .ok && decide (i < len) && decide (len ≤ 64) &&
      decide ((len - 1) * 8 < s.rxBits.toNat) && decide (s.rxBits.toNat ≤ len * 8)
  | _ => true

/-- The place belongs to the operation, and the registers it relies on hold what they must. -/
def placeOk (s : State) (op : Op) : Point → Bool
  | .init _ => op == .init
  | .framing => op.frames
  | .crc p => op.crcPayload != 0 && s.txLen.toNat == op.crcPayload && crcPlaceOk s p
  | .run p => op.exchanges && s.txLen.toNat == op.frameLength && runPlaceOk s op p
  | .deauthRead => op == .deauthenticate
  | .deauthWrite => op == .deauthenticate
  | .busRead a => op == .busTransaction && readAllowed s.cfg a
  | .busWrite a v => op == .busTransaction && writeAllowed s.cfg a v
  | .command _ => op == .command

/-- The sequencer position is consistent with the rest of the state. -/
def State.seqOk (s : State) : Bool :=
  match s.seq with
  | .idle => true
  | .run op _ p => placeOk s op p
  | .fault => true

/-- THE INVARIANT: an admitted configuration; `E.BUSFAULT` is set exactly in FAULT (R27); `E.TXLEN`, `E.RXLEN` and
`E.RXBITS` within the ranges of R21; the register space in canonical form; and a consistent place in the sequence. -/
abbrev State.Inv (s : State) : Prop :=
  s.cfg.Wf ∧
  (s.busFault = true ↔ s.seq = .fault) ∧
  s.txLen.toNat ≤ 64 ∧ s.rxLen.toNat ≤ 64 ∧ s.rxBits.toNat ≤ 512 ∧
  s.mem.Wf ∧
  s.seqOk = true

/-- The register space that a history leaves (newest event first): the last value written at each address, nothing
where the last write failed (R74). -/
def Memory.replay : List Event → Memory
  | [] => []
  | .read _ _ :: es => Memory.replay es
  | .write a v :: es => (Memory.replay es).write a.toNat v
  | .readFailed _ :: es => Memory.replay es
  | .writeFailed a _ :: es => (Memory.replay es).forget a.toNat

/-! ## Which registers an instruction accesses (R79, R59) -/

end Sys2Proof.Machine

namespace Sys2Proof

/-- The registers `RunCommand` writes. -/
def Config.exchangeWrites (c : Config) : List Byte :=
  [c.reg.comIEn, c.reg.comIrq, c.reg.fifoLevel, c.reg.command, c.reg.fifoData, c.reg.bitFraming]

/-- The registers `calculateCRC` writes. -/
def Config.crcWrites (c : Config) : List Byte :=
  [c.reg.divIrq, c.reg.fifoLevel, c.reg.fifoData, c.reg.command]

/-- The registers INIT writes (R79). -/
def Config.initWrites (c : Config) : List Byte :=
  [c.reg.command, c.reg.tMode, c.reg.tPrescaler, c.reg.tReloadL, c.reg.tReloadH, c.reg.txASK, c.reg.mode,
   c.reg.txControl]

/-- The registers an instruction may write (R79). -/
def Instr.writesTo (c : Config) : Instr → List Byte
  | .init => c.initWrites
  | .scan => c.exchangeWrites
  | .identify => c.exchangeWrites
  | .select _ => c.crcWrites ++ c.exchangeWrites
  | .authenticate _ _ _ _ => c.exchangeWrites
  | .deauthenticate => [c.reg.status2]
  | .read _ => c.crcWrites ++ c.exchangeWrites
  | .write _ _ => c.crcWrites ++ c.exchangeWrites
  | .rdreg _ _ => []
  | .wrreg a _ => [a]
  | .cmdIdle => [c.reg.command]
  | .cmdCalcCrc => [c.reg.command]
  | .cmdTransceive => [c.reg.command]
  | .cmdMfAuthent => [c.reg.command]
  | .cmdSoftReset => [c.reg.command]
  | .request => c.exchangeWrites
  | .anticoll => c.exchangeWrites
  | .selectFrame _ _ => c.exchangeWrites
  | .authblkA _ _ _ => c.exchangeWrites
  | .authblkB _ _ _ => c.exchangeWrites
  | .mfRead _ _ => c.exchangeWrites
  | .mfWrite _ _ => c.exchangeWrites
  | .mfWriteData _ _ => c.exchangeWrites

end Sys2Proof

namespace Sys2Proof.Machine

/-- A transaction the engine itself may make (R59, R71, R105, R304). -/
def Event.allowed (c : Config) : Event → Bool
  | .read a _ => c.readOk a
  | .write a v => c.writeOk a v
  | .readFailed a => c.readOk a
  | .writeFailed a v => c.writeOk a v

/-- No byte but the five codes is written to `REG.Command` by the transaction (R105). -/
def Event.commandOk (c : Config) : Event → Bool
  | .read _ _ => true
  | .write a v => commandAllowed c a v
  | .readFailed _ => true
  | .writeFailed a v => commandAllowed c a v

/-! ## The first transaction of each instruction (R26, R108) -/

end Sys2Proof.Machine

namespace Sys2Proof

open Machine

/-- What `SEQ = RUN(op, 0)` names for an accepted instruction (R108). -/
def Instr.op : Instr → Op
  | .init => .init
  | .scan => .scan
  | .identify => .identify
  | .select _ => .select
  | .authenticate _ _ _ _ => .authenticate
  | .deauthenticate => .deauthenticate
  | .read _ => .read
  | .write _ _ => .write .one
  | .rdreg _ _ => .busTransaction
  | .wrreg _ _ => .busTransaction
  | .cmdIdle => .command
  | .cmdCalcCrc => .command
  | .cmdTransceive => .command
  | .cmdMfAuthent => .command
  | .cmdSoftReset => .command
  | .request => .exchange .request
  | .anticoll => .exchange .anticoll
  | .selectFrame _ _ => .exchange .select
  | .authblkA _ _ _ => .exchange .auth
  | .authblkB _ _ _ => .exchange .auth
  | .mfRead _ _ => .exchange .read
  | .mfWrite _ _ => .exchange .write
  | .mfWriteData _ _ => .exchange .writeData

/-- The first transaction of each instruction's trace: the SoftReset write (R162), the framing writes (R180, R185, R111,
R112), the first read of `calculateCRC` (R260), of DEAUTHENTICATE (R201), the interrupt-enable write of `RunCommand` (R221),
the bus transaction itself (R141, R142), and the write of a command's code (R104). -/
def Instr.firstTransaction (c : Config) : Instr → Request
  | .init => .write c.reg.command c.cmd.softReset
  | .scan => .write c.reg.bitFraming 0x07
  | .identify => .write c.reg.bitFraming 0x00
  | .select _ => .read c.reg.divIrq
  | .authenticate _ _ _ _ => .write c.reg.comIEn (c.bit.irqEnAuthent ||| c.bit.irqInv)
  | .deauthenticate => .read c.reg.status2
  | .read _ => .read c.reg.divIrq
  | .write _ _ => .read c.reg.divIrq
  | .rdreg a _ => .read a
  | .wrreg a v => .write a v
  | .cmdIdle => .write c.reg.command c.cmd.idle
  | .cmdCalcCrc => .write c.reg.command c.cmd.calcCrc
  | .cmdTransceive => .write c.reg.command c.cmd.transceive
  | .cmdMfAuthent => .write c.reg.command c.cmd.mfAuthent
  | .cmdSoftReset => .write c.reg.command c.cmd.softReset
  | .request => .write c.reg.bitFraming 0x07
  | .anticoll => .write c.reg.bitFraming 0x00
  | .selectFrame _ _ => .write c.reg.comIEn (c.bit.irqEnTransceive ||| c.bit.irqInv)
  | .authblkA _ _ _ => .write c.reg.comIEn (c.bit.irqEnAuthent ||| c.bit.irqInv)
  | .authblkB _ _ _ => .write c.reg.comIEn (c.bit.irqEnAuthent ||| c.bit.irqInv)
  | .mfRead _ _ => .write c.reg.comIEn (c.bit.irqEnTransceive ||| c.bit.irqInv)
  | .mfWrite _ _ => .write c.reg.comIEn (c.bit.irqEnTransceive ||| c.bit.irqInv)
  | .mfWriteData _ _ => .write c.reg.comIEn (c.bit.irqEnTransceive ||| c.bit.irqInv)

end Sys2Proof

namespace Sys2Proof.Machine

/-! ## The status of an exchange -/

/-- The status `RunCommand` ended with, as its registers still show: an exhausted poll (R229), then a masked error bit
(R231), then the NoTagError predicate on the last polled byte (R232), else Ok. -/
def State.exchangeStatus (s : State) (cmd : Command) : Status :=
  if s.cnt = 0 then .protocolError
  else if errorMasked s.cfg s.errV then .protocolError
  else if noTag s.cfg cmd s.irqV then .noTagError
  else .ok

/-! ## The order of commands (R337) -/

/-- The values written to `REG.Command` by a history, in its order; a failed write counts, since it may have taken
effect (R74). -/
def commandWrites (c : Config) (es : List Event) : List Byte :=
  es.filterMap fun e =>
    match e with
    | .write a v => if a = c.reg.command then some v else none
    | .writeFailed a v => if a = c.reg.command then some v else none
    | .read _ _ => none
    | .readFailed _ => none

/-- "a Transceive or MFAuthent is always immediately preceded, among command-register writes, by Idle" (R337), for
values in the order written; `prev` is the value before the first. -/
def idleFirst (c : CommandCodes) (prev : Option Byte) : List Byte → Bool
  | [] => true
  | v :: vs => ((v != c.transceive && v != c.mfAuthent) || prev == some c.idle) && idleFirst c (some v) vs

/-! ## Bounds on the number of transactions (R351, R238, R268) -/

end Sys2Proof.Machine

namespace Sys2Proof

/-- The longest `transceiveCard` with `n` frame bytes. -/
def Config.exchangeMax (c : Config) (n : Nat) : Nat := 14 + n + (c.transceiveBudget.toNat - 1) + 64

/-- The shortest `transceiveCard` with `n` frame bytes: an error or NoTagError at the first poll, or an exhausted
poll under a very small budget. -/
def Config.exchangeMin (c : Config) (n : Nat) : Nat := min (12 + n + 1) (9 + n + c.transceiveBudget.toNat)

/-- The longest `RunAuthent`. -/
def Config.authMax (c : Config) : Nat := 10 + 12 + (c.transceiveBudget.toNat - 1)

/-- The shortest `RunAuthent`. -/
def Config.authMin (c : Config) : Nat := min (10 + 12 + 1) (7 + 12 + c.transceiveBudget.toNat)

/-- The longest `calculateCRC` over `m` bytes. -/
def Config.crcMax (c : Config) (m : Nat) : Nat := 7 + m + c.crcBudget.toNat

/-- The shortest `calculateCRC` over `m` bytes. -/
def Config.crcMin (m : Nat) : Nat := 7 + m + 1

/-- The largest number of transactions of an instruction (R351; log entry 5 for the private rows). -/
def Instr.maxTransactions (c : Config) : Instr → Nat
  | .init => 10
  | .scan => 1 + c.exchangeMax 1
  | .identify => 1 + c.exchangeMax 2
  | .select _ => c.crcMax 7 + c.exchangeMax 9
  | .authenticate _ _ _ _ => c.authMax
  | .deauthenticate => 2
  | .read _ => c.crcMax 2 + c.exchangeMax 4
  | .write _ _ => c.crcMax 2 + c.exchangeMax 4 + (c.crcMax 16 + c.exchangeMax 18)
  | .rdreg _ _ => 1
  | .wrreg _ _ => 1
  | .cmdIdle => 1
  | .cmdCalcCrc => 1
  | .cmdTransceive => 1
  | .cmdMfAuthent => 1
  | .cmdSoftReset => 1
  | .request => 1 + c.exchangeMax 1
  | .anticoll => 1 + c.exchangeMax 2
  | .selectFrame _ _ => c.exchangeMax 9
  | .authblkA _ _ _ => c.authMax
  | .authblkB _ _ _ => c.authMax
  | .mfRead _ _ => c.exchangeMax 4
  | .mfWrite _ _ => c.exchangeMax 4
  | .mfWriteData _ _ => c.exchangeMax 18

/-- The smallest number of transactions of an instruction that completes (R351). -/
def Instr.minTransactions (c : Config) : Instr → Nat
  | .init => 8
  | .scan => 1 + c.exchangeMin 1
  | .identify => 1 + c.exchangeMin 2
  | .select _ => Config.crcMin 7 + c.exchangeMin 9
  | .authenticate _ _ _ _ => c.authMin
  | .deauthenticate => 2
  | .read _ => Config.crcMin 2 + c.exchangeMin 4
  | .write _ _ => Config.crcMin 2 + c.exchangeMin 4
  | .rdreg _ _ => 1
  | .wrreg _ _ => 1
  | .cmdIdle => 1
  | .cmdCalcCrc => 1
  | .cmdTransceive => 1
  | .cmdMfAuthent => 1
  | .cmdSoftReset => 1
  | .request => 1 + c.exchangeMin 1
  | .anticoll => 1 + c.exchangeMin 2
  | .selectFrame _ _ => c.exchangeMin 9
  | .authblkA _ _ _ => c.authMin
  | .authblkB _ _ _ => c.authMin
  | .mfRead _ _ => c.exchangeMin 4
  | .mfWrite _ _ => c.exchangeMin 4
  | .mfWriteData _ _ => c.exchangeMin 18

end Sys2Proof

namespace Sys2Proof.Machine

/-- A reply that ends an operation normally: not a refusal, not BusError. -/
def Reply.ends : Reply → Bool
  | .completed => true
  | .byte _ => true
  | .result _ _ _ => true
  | .nothing => false
  | .turnedAway _ => false
  | .busError _ _ => false

/-- The numeric result code the host sees (R120): 3 for BusError, none where no status is reported. -/
def Reply.code (c : Config) : Reply → Option (BitVec 2)
  | .result st _ _ => some (c.statusCode.code st)
  | .busError _ _ => some c.statusCode.busError
  | .nothing => none
  | .turnedAway _ => none
  | .completed => none
  | .byte _ => none

/-! ## Traces of the subroutines, oldest event first (R14): what the engine asks for, with the bytes the reads return -/

/-- The answer is what the environment gave in the event. A write only completes: its answer's byte is ignored. -/
def Answer.gives : Answer → Event → Bool
  | .done v, .read _ u => v == u
  | .done _, .write _ _ => true
  | .done _, .readFailed _ => false
  | .done _, .writeFailed _ _ => false
  | .failed, .read _ _ => false
  | .failed, .write _ _ => false
  | .failed, .readFailed _ => true
  | .failed, .writeFailed _ _ => true

/-- The tape answers the events one by one. -/
def tapeGives : List Answer → List Event → Bool
  | [], [] => true
  | a :: as, e :: es => a.gives e && tapeGives as es
  | [], _ :: _ => false
  | _ :: _, [] => false

/-- `SETBITS` at an address whose read returns `v` (R143). -/
def setBitsTrace (a v m : Byte) : List Event := [.read a v, .write a (v ||| m)]

/-- `CLEARBITS` at an address whose read returns `v` (R144). -/
def clearBitsTrace (a v m : Byte) : List Event := [.read a v, .write a (v &&& ~~~m)]

/-- Step 1 of `RunCommand` up to the command write (R221 to R225), the request register reading `irq` and the level
register `lvl`. -/
def armTrace (c : Config) (cmd : Command) (frame : List Byte) (irq lvl : Byte) : List Event :=
  [.write c.reg.comIEn (irqEn c cmd ||| c.bit.irqInv)] ++
  clearBitsTrace c.reg.comIrq irq c.bit.set1 ++
  setBitsTrace c.reg.fifoLevel lvl c.bit.flushBuffer ++
  [.write c.reg.command (c.cmd.code .idle)] ++
  frame.map (.write c.reg.fifoData) ++
  [.write c.reg.command (c.cmd.code cmd)]

/-- Step 1 whole: for Transceive start-send is set, the framing register reading `framing` (R226); for MFAuthent it is
not (R241). -/
def startTrace (c : Config) (cmd : Command) (frame : List Byte) (irq lvl framing : Byte) : List Event :=
  armTrace c cmd frame irq lvl ++
  if cmd = .transceive then setBitsTrace c.reg.bitFraming framing c.bit.startSend else []

/-- Step 2 (R228): the poll reads. -/
def pollTrace (c : Config) (polls : List Byte) : List Event := polls.map (.read c.reg.comIrq)

/-- Step 3 (R230, R231): start-send cleared, the framing register reading `framing`; the error register read. -/
def outcomeTrace (c : Config) (framing err : Byte) : List Event :=
  clearBitsTrace c.reg.bitFraming framing c.bit.startSend ++ [.read c.reg.error err]

/-- Step 4 (R233, R234): level, control, and the drained bytes. -/
def responseTrace (c : Config) (lvl control : Byte) (rx : List Byte) : List Event :=
  [.read c.reg.fifoLevel lvl, .read c.reg.control control] ++ rx.map (.read c.reg.fifoData)

/-- `calculateCRC` (R268). -/
def crcTrace (c : Config) (payload : List Byte) (irq lvl : Byte) (polls : List Byte) (lo hi : Byte) : List Event :=
  clearBitsTrace c.reg.divIrq irq c.bit.crcIRq ++
  setBitsTrace c.reg.fifoLevel lvl c.bit.flushBuffer ++
  payload.map (.write c.reg.fifoData) ++
  [.write c.reg.command (c.cmd.code .calcCrc)] ++
  polls.map (.read c.reg.divIrq) ++
  [.read c.reg.crcResultL lo, .read c.reg.crcResultM hi]

/-- The configuration writes of INIT (R162 to R166). -/
def initTrace (c : Config) : List Event :=
  [.write c.reg.command (c.cmd.code .softReset), .write c.reg.tMode c.initv.tMode,
   .write c.reg.tPrescaler c.initv.tPrescaler, .write c.reg.tReloadL c.initv.tReloadL,
   .write c.reg.tReloadH c.initv.tReloadH, .write c.reg.txASK c.initv.txASK, .write c.reg.mode c.initv.mode]

/-- The last poll read shows a terminating bit, none before it does, and the counter has not reached 0 (R228, R229). -/
abbrev PollSucceeds (c : Config) (cmd : Command) (quiet : List Byte) (last : Byte) : Prop :=
  (∀ v ∈ quiet, pollSees c cmd v = false) ∧ pollSees c cmd last = true ∧
  quiet.length + 1 < c.transceiveBudget.toNat

/-- The counter reaches 0 with no terminating bit before the last read (R229). -/
abbrev PollExhausted (c : Config) (cmd : Command) (quiet : List Byte) : Prop :=
  (∀ v ∈ quiet, pollSees c cmd v = false) ∧ quiet.length + 1 = c.transceiveBudget.toNat

/-- The CRC poll leaves at its last read, whichever way (R266). -/
abbrev CrcPollLeaves (c : Config) (quiet : List Byte) (last : Byte) : Prop :=
  (∀ v ∈ quiet, crcDone c v = false) ∧ quiet.length + 1 ≤ c.crcBudget.toNat ∧
  (quiet.length + 1 = c.crcBudget.toNat ∨ crcDone c last = true)

/-- The received bytes are the acknowledgment the check asks for: 4 bits with the value `PICC.Ack` (R211). -/
abbrev Acknowledged (c : Config) (rx : List Byte) (control : Byte) : Prop :=
  bitCount rx.length (lastBits c control) = 4 ∧ rx.getD 0 0 &&& 0x0F = c.picc.ack

/-! ## The host's ordering discipline (R330 to R335): owed by the host, never enforced (R214) -/

/-- The operations the discipline allows in a ghost state (R335, column "operations the discipline allows"; where an
operation failed in AUTHENTICATED, `deauth` comes before `scan`). A private routine is not the host's to issue. -/
def Ghost.allows : Ghost → Instr → Bool
  | _, .init => true
  | .uninit, _ => false
  | .ready owesDeauth, .scan => !owesDeauth
  | .ready owesDeauth, .deauthenticate => owesDeauth
  | .requested, .identify => true
  | .requested, .scan => true
  | .identified, .select _ => true
  | .identified, .scan => true
  | .selected, .authenticate _ _ _ _ => true
  | .selected, .scan => true
  | .authenticated b, .read blk => Config.sectorOf blk == Config.sectorOf b
  | .authenticated b, .write blk _ => Config.sectorOf blk == Config.sectorOf b
  | .authenticated b, .authenticate _ blk _ _ => Config.sectorOf blk != Config.sectorOf b
  | .authenticated _, .deauthenticate => true
  | _, _ => false

/-- A host that keeps the discipline offers only allowed operations, and only to an accepting engine. -/
abbrev Disciplined (i : Instr) (s : State) : Prop := s.Accepting ∧ s.ghost.allows i = true

/-- On a card whose sectors all have 4 blocks, the sector of a block (R77). -/
def fourBlockSector (blk : Byte) : Nat := blk.toNat / 4

/-- On such a card, the trailer of a block's sector (R77). -/
def fourBlockTrailer (blk : Byte) : Nat := blk.toNat / 4 * 4 + 3

/-- The history without what no rule may read: two states that agree here must behave alike (R95, R335). -/
def State.unobserved (s : State) : State :=
  { s with events := [], mem := [], ghost := .uninit, reply := .nothing }

end Sys2Proof.Machine
end

