-- ==== Sys2Proof/Certificates/Slice0/Obligations.lean ====
section
/-! DEFINITION. The statements for the provers. Each docstring names the rules it formalises. -/

open Sys2Proof Sys2Proof.Machine

/-! ## Encodings -/

/-- For every admitted configuration and every instruction of the four spaces, the decoder reads back what the encoder
wrote (R101, R102, R106, R111 to R117). -/
def Obligations.DecodeOfEncodeIsTheInstruction : Prop :=
  ∀ (c : Config) (i : Instr), c.Wf → decode c (encode c i).1 (encode c i).2 = .ok i

/-- The other direction at the host port: a host word has one meaning, and no bit of it is dropped (R106). -/
def Obligations.HostWordIsTheEncodingOfItsInstruction : Prop :=
  ∀ (c : Config) (l : List Byte) (i : Instr), decode c .host l = .ok i → i.port = .host ∧ encodeBytes c i = l

/-- The words of section V6 of the test vectors decode to what they stand for: nine host words, three bus words with their
bytes least significant first (DESIGN CHOICE, log entry 8), and the four op bytes listed there as no operations are rejected
(R101, R106, R121(a)). -/
def Obligations.WordsOfTheVectorsDecode : Prop :=
  decode Config.default .host [0x00] = .ok .init ∧
  decode Config.default .host [0x01] = .ok .scan ∧
  decode Config.default .host [0x02] = .ok .identify ∧
  decode Config.default .host [0x03, 0xDE, 0xAD, 0xBE, 0xEF, 0x22] =
    .ok (.select #v[0xDE, 0xAD, 0xBE, 0xEF, 0x22]) ∧
  decode Config.default .host [0x04, 0x04, 0xFF, 0xFF, 0xFF, 0xFF, 0xFF, 0xFF, 0xDE, 0xAD, 0xBE, 0xEF] =
    .ok (.authenticate false 0x04 #v[0xFF, 0xFF, 0xFF, 0xFF, 0xFF, 0xFF] #v[0xDE, 0xAD, 0xBE, 0xEF]) ∧
  decode Config.default .host [0x0C, 0x07, 0xA0, 0xA1, 0xA2, 0xA3, 0xA4, 0xA5, 0x12, 0x34, 0x56, 0x78] =
    .ok (.authenticate true 0x07 #v[0xA0, 0xA1, 0xA2, 0xA3, 0xA4, 0xA5] #v[0x12, 0x34, 0x56, 0x78]) ∧
  decode Config.default .host [0x05] = .ok .deauthenticate ∧
  decode Config.default .host [0x06, 0x04] = .ok (.read 0x04) ∧
  decode Config.default .host [0x07, 0x04, 0x00, 0x01, 0x02, 0x03, 0x04, 0x05, 0x06, 0x07, 0x08, 0x09, 0x0A, 0x0B, 0x0C,
      0x0D, 0x0E, 0x0F] =
    .ok (.write 0x04 #v[0x00, 0x01, 0x02, 0x03, 0x04, 0x05, 0x06, 0x07, 0x08, 0x09, 0x0A, 0x0B, 0x0C, 0x0D, 0x0E, 0x0F]) ∧
  decode Config.default .bus (leBytes 3 0x1010C) = .ok (.wrreg 0x01 0x0C) ∧
  decode Config.default .bus (leBytes 3 0x00460) = .ok (.rdreg 0x04 0x60) ∧
  decode Config.default .bus (leBytes 3 0x10926) = .ok (.wrreg 0x09 0x26) ∧
  decode Config.default .host [0x08] = .error .illegalOp ∧
  decode Config.default .host [0x0D] = .error .illegalOp ∧
  decode Config.default .host [0x10] = .error .illegalOp ∧
  decode Config.default .host [0xFF] = .error .illegalOp

/-! ## Steps and acceptance -/

/-- A step takes the oldest offer and, when it decodes to an instruction, runs exactly that instruction. -/
def Obligations.StepRunsTheDecodedInstruction : Prop :=
  ∀ (s : State) (o : Offer) (rest : List Offer) (i : Instr),
    s.resetLine = false → s.inbox = o :: rest → decode s.cfg o.port o.bytes = .ok i →
    step s = exec i { s with inbox := rest }

/-- With nothing offered and no reset asked for, a step of a running engine is exactly one transaction, the one its place
names, with the oldest answer delivered or, where none is, with some answer (R16, R26, R350, decision D26; log entries 3 and
4); an engine at rest stays as it is; and as many steps as there are answers on the tape are the run over that tape. -/
def Obligations.StepGoesOnWithTheRunningOperation : Prop :=
  ∀ s : State, s.resetLine = false → s.inbox = [] →
    (∀ op k p a rest, s.seq = .run op k p → s.answers = a :: rest →
      step s = .next (transact { s with answers := rest } op k p a)) ∧
    (∀ op k p, s.seq = .run op k p → s.answers = [] →
      ∃ a, step s = .next (transact { s with fresh := s.fresh + 1 } op k p a)) ∧
    (s.running = false → step s = .next s) ∧
    steps s.answers.length s = .next s.resume

/-- A host op byte with a reserved bit set, or with the key bit set outside AUTHENTICATE, is refused: no transaction, no
change of the engine's state, `SEQ` as it was (R121(a)). -/
def Obligations.IllegalOpByteIsRefusedWithoutEffect : Prop :=
  ∀ (s : State) (b : Byte) (ops : List Byte) (rest : List Offer),
    s.resetLine = false → s.inbox = ⟨.host, b :: ops⟩ :: rest →
    (opReserved b ≠ 0 ∨ (opKey b = true ∧ opField b ≠ s.cfg.hostOp.authenticate)) →
    step s = .next { s with inbox := rest, reply := .turnedAway (.illegal .illegalOp) }

/-- R92, R121(b), R330: an operation presented while `SEQ` is not `IDLE` is refused with no effect; the reply names the bus
fault where one is latched. That a refusal is a next state with only the reply changed, the reply itself, and that a private
row is refused in the same way are the model's (log entries 15, 30 and 5). -/
def Obligations.BusyEngineRefusesWithoutEffect : Prop :=
  ∀ (i : Instr) (s : State), s.seq ≠ .idle →
    exec i s = .next { s with reply := .turnedAway (if s.busFault then .busFault else .busy) }

/-- R108: every instruction is accepted in IDLE, its `SEQ` is then `RUN(op, 0)` of its own operation, and the transaction
named by that place is the first of its trace; nothing has happened on the bus yet. (The private rows, among them the bus
words whose access R59, R71, R105 and R304 give the engine: log entry 5; the tape: log entry 3.) -/
def Obligations.AcceptedInstructionWaitsAtItsFirstTransaction : Prop :=
  ∀ (i : Instr) (s : State), s.Accepting → s.cfg.Wf → i.wellFormed s.cfg = true →
    ∃ (t : State) (p : Point), exec i s = .next t ∧ t.seq = .run i.op 0 p ∧
      request t i.op p = i.firstTransaction s.cfg ∧ t.events = s.events ∧ t.mem = s.mem ∧ t.reply = .nothing ∧
      t.answers = s.answers ∧ t.cfg = s.cfg

/-- R108: the operands an accepted operation carries are latched, byte 4 of the serial number not by AUTHENTICATE, and they
stay while it runs; the key is not kept beyond it (R300). That every other latch keeps its value is log entry 36. -/
def Obligations.OperandLatchesHoldTheOperands : Prop :=
  ∀ (s t : State), s.Accepting →
    (∀ sn, Reaches (.select sn) s t →
      t.sn = sn ∧ t.blk = s.blk ∧ t.keyB = s.keyB ∧ t.key = s.key ∧ t.data = s.data) ∧
    (∀ k b key uid, Reaches (.authenticate k b key uid) s t →
      t.keyB = k ∧ t.blk = b ∧ (t.running = true → t.key = key) ∧ (∀ j, j < 4 → byteAt t.sn j = byteAt uid j) ∧
      byteAt t.sn 4 = byteAt s.sn 4 ∧ t.data = s.data) ∧
    (∀ b, Reaches (.read b) s t →
      t.blk = b ∧ t.keyB = s.keyB ∧ t.key = s.key ∧ t.sn = s.sn ∧ t.data = s.data) ∧
    (∀ b d, Reaches (.write b d) s t →
      t.blk = b ∧ t.data = d ∧ t.keyB = s.keyB ∧ t.key = s.key ∧ t.sn = s.sn) ∧
    (∀ i, i ∈ [Instr.init, .scan, .identify, .deauthenticate] → Reaches i s t →
      t.blk = s.blk ∧ t.keyB = s.keyB ∧ t.key = s.key ∧ t.sn = s.sn ∧ t.data = s.data) ∧
    (∀ i, i.port ≠ .host → Reaches i s t →
      t.blk = s.blk ∧ t.keyB = s.keyB ∧ (i.op.takesKey = false → t.key = s.key) ∧ t.sn = s.sn ∧ t.data = s.data)

/-- R214: with `CFG.trackSession` true, which the spec does not define (U9), READ and WRITE stop by name; with a budget
of 0, which is no configuration (U15), the instructions that poll do. (Log entries 16 and 17.) -/
def Obligations.UnspecifiedConfigurationsStopByName : Prop :=
  (∀ (s : State) (b : Byte) (d : Bytes 16), s.Accepting → s.cfg.trackSession = true →
    exec (.read b) s = .refused .sessionTracking ∧ exec (.write b d) s = .refused .sessionTracking) ∧
  (∀ (s : State) (i : Instr), s.Accepting → s.cfg.budgetsOk = false → s.cfg.trackSession = false →
    i.port ∈ [Port.host, .frame] → i ≠ .init → i ≠ .deauthenticate → exec i s = .refused .zeroBudget)

/-! ## Reset and BusError -/

/-- State after engine reset: the values of R31 and R321, and UNINIT of R335. That the configuration is then the spec's
defaults is log entries 1 and 2, that the history is empty log entry 20. -/
def Obligations.ResetLeavesTheStatedValues : Prop :=
  State.reset.seq = .idle ∧ State.reset.busFault = false ∧ State.reset.txLen = 0 ∧ State.reset.rxLen = 0 ∧
  State.reset.rxBits = 0 ∧ State.reset.cnt = 0 ∧ State.reset.ghost = .uninit ∧ State.reset.trace = [] ∧
  State.reset.cfg = Config.default

/-- An engine reset asked for is taken whatever runs (R31, R320(a), R344): the stated registers take their reset values,
the fault latch is cleared, the ghost state is UNINIT (R335), and no transaction is made. -/
def Obligations.EngineResetFromEveryState : Prop :=
  ∀ s : State, s.resetLine = true →
    ∃ t : State, step s = .next t ∧ t.seq = .idle ∧ t.busFault = false ∧ t.txLen = 0 ∧ t.rxLen = 0 ∧ t.rxBits = 0 ∧
      t.cnt = 0 ∧ t.ghost = .uninit ∧ t.events = s.events ∧ t.mem = s.mem ∧ t.answers = s.answers ∧
      t.inbox = s.inbox ∧ t.cfg = s.cfg ∧ t.resetLine = false

/-- A failing transaction ends the running operation with BusError (R290): it is the last one made, the fault is latched,
the host receives its address and direction, and the registers that are no result registers keep their values (log entry
13), but for the key, which does not outlive its operation (R300). -/
def Obligations.FailingTransactionTakesBusError : Prop :=
  ∀ (s : State) (op : Op) (k : Nat) (p : Point) (rest : List Answer),
    s.seq = .run op k p → s.answers = .failed :: rest → s.resetLine = false → s.inbox = [] →
    ∃ t : State, step s = .next t ∧ t.seq = .fault ∧ t.busFault = true ∧
      t.reply = .busError (request s op p).addr (request s op p).dir ∧
      t.events = (request s op p).failure :: s.events ∧ t.answers = rest ∧
      (∀ a, a ≠ (request s op p).addr → t.written a = s.written a) ∧
      t.cfg = s.cfg ∧ t.txLen = s.txLen ∧ t.cnt = s.cnt ∧ t.irqV = s.irqV ∧ t.errV = s.errV ∧
      t.tmp = s.tmp ∧ t.blk = s.blk ∧ t.keyB = s.keyB ∧ t.sn = s.sn ∧ t.data = s.data ∧
      (op.takesKey = false → t.key = s.key ∧ t.txBuf = s.txBuf) ∧
      (∀ j, j < 2 ∨ 8 ≤ j → byteAt t.txBuf j = byteAt s.txBuf j)

/-- R27, R292: the latch is set when a transaction fails, stays set through every step but an engine reset, and while it is
set `SEQ = FAULT`, no transaction is made and every operation is refused. The form of the refusal, and that the private rows
are refused too, are the model's (log entries 15 and 5). -/
def Obligations.BusFaultLatchIsSticky : Prop :=
  (∀ s : State, s.running = true → (tick s .failed).busFault = true ∧ (tick s .failed).seq = .fault) ∧
  (∀ s t : State, s.Inv → s.busFault = true → s.resetLine = false → step s = .next t →
    t.busFault = true ∧ t.seq = .fault ∧ t.events = s.events) ∧
  (∀ s : State, s.Inv → s.busFault = true → s.seq = .fault) ∧
  (∀ (i : Instr) (s : State), s.busFault = true → exec i s = .next { s with reply := .turnedAway .busFault }) ∧
  (∀ s t : State, s.resetLine = true → step s = .next t → t.busFault = false)

/-! ## Invariants of every step -/

/-- The state after reset satisfies the invariant. -/
def Obligations.ResetSatisfiesTheInvariant : Prop := State.reset.Inv

/-- Every step keeps the invariant (R21, R26, R27): the ranges of the lengths and the bit count, the fault latch set
exactly in FAULT, the register space canonical, and a consistent place in the micro-sequence. -/
def Obligations.EveryStepKeepsTheInvariant : Prop :=
  ∀ s t : State, s.Inv → step s = .next t → t.Inv

/-- The register space as written is at every moment exactly what the history says (R73, R95). -/
def Obligations.EveryStepKeepsTheRegisterSpaceEqualToItsHistory : Prop :=
  ∀ s t : State, s.mem = Memory.replay s.events → step s = .next t → t.mem = Memory.replay t.events

/-- Configuration, and what waits outside the engine, is changed by no instruction and no run of one (R28(a), R321); the
answers a run consumes are as many as the transactions it makes. -/
def Obligations.NoInstructionChangesTheConfiguration : Prop :=
  ∀ (i : Instr) (s t : State), Reaches i s t →
    t.cfg = s.cfg ∧ t.inbox = s.inbox ∧ t.resetLine = s.resetLine ∧
    ∃ used new, s.answers = used ++ t.answers ∧ t.events = new ++ s.events ∧ new.length = used.length

/-! ## Transactions -/

/-- One transaction for one answer (R16, R26, R95): it is the one the micro-sequence names, it is recorded once, a write
is remembered at its address and nowhere else, and the configuration and the tape are untouched. A step of the machine makes
exactly one when an operation runs and nothing else is asked for, and none otherwise (R350, decision D26). -/
def Obligations.OneAnswerIsOneRecordedTransaction : Prop :=
  (∀ (s : State) (op : Op) (k : Nat) (p : Point) (v : Byte), s.seq = .run op k p →
    (tick s (.done v)).events = (request s op p).event v :: s.events ∧
    (tick s (.done v)).mem = (request s op p).effect s.mem ∧
    (tick s (.done v)).cfg = s.cfg ∧ (tick s (.done v)).answers = s.answers ∧
    (tick s (.done v)).inbox = s.inbox ∧ (tick s (.done v)).busFault = s.busFault ∧
    (∀ op' k' p', (tick s (.done v)).seq = .run op' k' p' → k' = k + 1)) ∧
  (∀ s t : State, step s = .next t →
    ∃ new, t.events = new ++ s.events ∧
      new.length = if s.running = true ∧ s.resetLine = false ∧ s.inbox = [] then 1 else 0)

/-- However the answers are delivered, the run over them is the same: answers that come later continue the operation as if
they had been on the tape from the start (R72, R89; log entry 3). -/
def Obligations.AnswersInPiecesGiveTheSameRun : Prop :=
  ∀ (i : Instr) (s t : State) (later : List Answer), Runs i s t →
    Runs i (s.deliver later) (t.deliver later).resume

/-- R105: no step of the machine, whatever instruction runs, writes to `REG.Command` a value other than the five codes. -/
def Obligations.CommandRegisterGetsOnlyTheFiveCodes : Prop :=
  ∀ s t : State, s.Inv → step s = .next t →
    ∃ new, t.events = new ++ s.events ∧ ∀ e ∈ new, e.commandOk s.cfg = true

/-- R79, R59, R71: outside the registers of its operation, an instruction leaves the register space as it was; every access
of every instruction, and of every step, is one of those R59 gives the engine, a byte written to `REG.Command` one of the
five codes (R105), and one written to `REG.TxControl` has both antenna-driver bits set (R304). (The private rows: log entry
5.) -/
def Obligations.OnlyTheOperationsRegistersAreAccessed : Prop :=
  (∀ (i : Instr) (s t : State) (a : Byte), Reaches i s t → a ∉ i.writesTo s.cfg → t.written a = s.written a) ∧
  (∀ (i : Instr) (s t : State), s.cfg.Wf → Runs i s t →
    ∃ new, t.events = new ++ s.events ∧ ∀ e ∈ new, e.allowed s.cfg = true) ∧
  (∀ s t : State, s.Inv → step s = .next t →
    ∃ new, t.events = new ++ s.events ∧ ∀ e ∈ new, e.allowed s.cfg = true)

/-- R337: in the command writes of any host operation, Transceive and MFAuthent are always immediately preceded by
Idle. -/
def Obligations.IdlePrecedesTransceiveAndMfAuthent : Prop :=
  ∀ (i : Instr) (s t : State), i.port = .host → s.cfg.Wf → Runs i s t →
    ∃ new, t.events = new ++ s.events ∧ idleFirst s.cfg.cmd none (commandWrites s.cfg new.reverse) = true

/-- No rule reads the history, the register space as written, the ghost state or the last reply (R95, R335, R214): two
states that differ only there behave alike, in every step and over every run of an instruction. -/
def Obligations.HistoryAndGhostStateSteerNothing : Prop :=
  ∀ s s' : State, s.unobserved = s'.unobserved →
    (∀ t, step s = .next t → ∃ t', step s' = .next t' ∧ t.unobserved = t'.unobserved) ∧
    (∀ r, step s = .refused r → step s' = .refused r) ∧
    (∀ i t, Runs i s t → ∃ t', Runs i s' t' ∧ t.unobserved = t'.unobserved)

/-- Every instruction is accepted in IDLE and ends within its bound when the bus answers every transaction (R351, R228,
R266), having made at least its smallest number of transactions and consumed exactly their answers. (The private rows: log
entry 5.) -/
def Obligations.EveryInstructionEndsWithinItsBounds : Prop :=
  ∀ (i : Instr) (s : State), s.Accepting → s.cfg.Wf → i.wellFormed s.cfg = true →
    NoFailure s.answers → i.maxTransactions s.cfg ≤ s.answers.length →
    ∃ (u t : State) (new : List Event), exec i s = .next u ∧ u.resume = t ∧ t.seq = .idle ∧ t.busFault = false ∧
      t.reply.ends = true ∧ t.events = new ++ s.events ∧ i.minTransactions s.cfg ≤ new.length ∧
      new.length ≤ i.maxTransactions s.cfg ∧ t.answers = s.answers.drop new.length

/-- The numbers of R351's table. -/
def Obligations.TransactionBoundsOfTheTable : Prop :=
  (∀ sn k b key uid d,
    ([Instr.init, .scan, .identify, .select sn, .authenticate k b key uid, .deauthenticate, .read b,
      .write b d].map (Instr.maxTransactions Config.default)) = [10, 2079, 2080, 2355, 2021, 2, 2345, 4718]) ∧
  (∀ sn k b key uid d,
    ([Instr.init, .scan, .identify, .select sn, .authenticate k b key uid, .deauthenticate, .read b,
      .write b d].map (Instr.minTransactions Config.default)) = [8, 15, 16, 37, 23, 2, 27, 27])

/-! ## The bus primitives and the commands -/

/-- R142: the bus word with direction 1 is one write transaction of the byte; the engine's registers keep their values (log
entry 36); on failure BusError at that address. A word that writes where the engine does not (R59, R71), a byte that R105
keeps from the command register, or one that would switch the antenna off (R304), is turned away (its form: log entry 15; the reply: log entry 30). That the row is accepted by itself is log entry 5, the byte order of its word log entry 8, the register space as written log entry
20. -/
def Obligations.WrregIsOneWriteTransaction : Prop :=
  ∀ (s : State) (a v : Byte) (rest : List Answer), s.Accepting →
    decode s.cfg .bus [v, a, 1] = .ok (.wrreg a v) ∧
    (s.cfg.writeOk a v = true →
      (∀ w, s.answers = .done w :: rest →
        ∃ u : State, exec (.wrreg a v) s = .next u ∧ u.resume = { s with
          reply := .completed, answers := rest, events := .write a v :: s.events, mem := s.mem.write a.toNat v }) ∧
      (s.answers = .failed :: rest →
        ∃ u t : State, exec (.wrreg a v) s = .next u ∧ u.resume = t ∧ t.seq = .fault ∧ t.busFault = true ∧
          t.reply = .busError a .write ∧ t.events = .writeFailed a v :: s.events ∧ t.answers = rest)) ∧
    (s.cfg.writeOk a v = false →
      exec (.wrreg a v) s = .next { s with reply := .turnedAway (.illegal .notAccessed) })

/-- R141: the bus word with direction 0 is one read transaction; the byte is whatever the bus returned, and no register of
the engine is written (log entry 36); on failure BusError at that address. A word that reads where the engine does not (R59, R71)
is turned away (its form: log entry 15; the reply: log entry 30). That the row is accepted by itself is log entry
5, that the data field is ignored log entry 6, the byte order of its word log entry 8. -/
def Obligations.RdregIsOneReadTransaction : Prop :=
  ∀ (s : State) (a d : Byte) (rest : List Answer), s.Accepting →
    decode s.cfg .bus [d, a, 0] = .ok (.rdreg a d) ∧
    (s.cfg.readOk a = true →
      (∀ v, s.answers = .done v :: rest →
        ∃ u : State, exec (.rdreg a d) s = .next u ∧ u.resume = { s with
          reply := .byte v, answers := rest, events := .read a v :: s.events }) ∧
      (s.answers = .failed :: rest →
        ∃ u t : State, exec (.rdreg a d) s = .next u ∧ u.resume = t ∧ t.seq = .fault ∧ t.busFault = true ∧
          t.reply = .busError a .read ∧ t.events = .readFailed a :: s.events ∧ t.answers = rest ∧ t.mem = s.mem)) ∧
    (s.cfg.readOk a = false →
      exec (.rdreg a d) s = .next { s with reply := .turnedAway (.illegal .notAccessed) })

/-- R104: each transceiver command is one write of its code to the command register, and nothing else (run by itself: log
entries 5, 29 and 36; the register space as written: log entry 20). -/
def Obligations.EachCommandIsOneWriteOfItsCode : Prop :=
  ∀ (s : State) (w : Byte) (rest : List Answer), s.Accepting → s.answers = .done w :: rest →
    ∀ ic ∈ [(Instr.cmdIdle, s.cfg.cmd.idle), (.cmdCalcCrc, s.cfg.cmd.calcCrc),
        (.cmdTransceive, s.cfg.cmd.transceive), (.cmdMfAuthent, s.cfg.cmd.mfAuthent),
        (.cmdSoftReset, s.cfg.cmd.softReset)],
      ∃ u : State, exec ic.1 s = .next u ∧ u.resume = { s with
        reply := .completed, answers := rest, events := .write s.cfg.reg.command ic.2 :: s.events,
        mem := s.mem.write s.cfg.reg.command.toNat ic.2 }

/-- R143, R144: each use of a helper is a read at an address, `E.TMP` taking the byte, and then a write at the same
address of that byte with the mask's bits set or cleared and the other bits as read; if the read fails the write is not
made. -/
def Obligations.HelpersWriteBackTheOtherBits : Prop :=
  ∀ (s : State) (op : Op) (k : Nat) (v : Byte),
    ∀ h ∈ [(Point.init .antennaRead, Point.init .antennaWrite, s.cfg.reg.txControl, v ||| s.cfg.bit.antennaOn),
        (.crc .clearRead, .crc .clearWrite, s.cfg.reg.divIrq, v &&& ~~~s.cfg.bit.crcIRq),
        (.crc .flushRead, .crc .flushWrite, s.cfg.reg.fifoLevel, v ||| s.cfg.bit.flushBuffer),
        (.run .irqRead, .run .irqWrite, s.cfg.reg.comIrq, v &&& ~~~s.cfg.bit.set1),
        (.run .flushRead, .run .flushWrite, s.cfg.reg.fifoLevel, v ||| s.cfg.bit.flushBuffer),
        (.run .sendRead, .run .sendWrite, s.cfg.reg.bitFraming, v ||| s.cfg.bit.startSend),
        (.run .clearRead, .run .clearWrite, s.cfg.reg.bitFraming, v &&& ~~~s.cfg.bit.startSend),
        (.deauthRead, .deauthWrite, s.cfg.reg.status2, v &&& ~~~s.cfg.bit.crypto1On)],
      s.seq = .run op k h.1 →
        request s op h.1 = .read h.2.2.1 ∧
        (tick s (.done v)).seq = .run op (k + 1) h.2.1 ∧ (tick s (.done v)).tmp = v ∧
        request (tick s (.done v)) op h.2.1 = .write h.2.2.1 h.2.2.2 ∧
        (tick s .failed).seq = .fault ∧ (tick s .failed).events = .readFailed h.2.2.1 :: s.events

/-! ## INIT and DEAUTHENTICATE -/

/-- R168: INIT makes its seven configuration writes in order and reads TX-control. If both antenna bits are set it is
done after 8 transactions; otherwise a second read and one write follow, the write carrying the other bits of the second
read. `E.TMP` holds the last TX-control value read (R323); `E.TXBUF`, `E.TXLEN`, `E.CNT`, `E.IRQV`, `E.ERRV` and `E.CRC` keep
their values (log entry 36; for the latches `OperandLatchesHoldTheOperands`). The ghost state is READY by R335, and owes no
DEAUTHENTICATE by log entry 18. -/
def Obligations.InitConfiguresTheChipInOrder : Prop :=
  ∀ (s : State) (test second : Byte) (as rest : List Answer), s.Accepting →
    (antennaIsOn s.cfg test = true →
      tapeGives as (initTrace s.cfg ++ [.read s.cfg.reg.txControl test]) = true → s.answers = as ++ rest →
      ∃ u t : State, exec .init s = .next u ∧ u.resume = t ∧ t.seq = .idle ∧ t.reply = .completed ∧
        t.ghost = .ready false ∧ t.answers = rest ∧
        t.trace = s.trace ++ (initTrace s.cfg ++ [.read s.cfg.reg.txControl test]) ∧ t.tmp = test ∧
        t.busFault = false ∧ t.txBuf = s.txBuf ∧ t.txLen = s.txLen ∧ t.cnt = s.cnt ∧ t.irqV = s.irqV ∧
        t.errV = s.errV ∧ t.crc = s.crc) ∧
    (antennaIsOn s.cfg test = false →
      tapeGives as (initTrace s.cfg ++ [.read s.cfg.reg.txControl test] ++
        setBitsTrace s.cfg.reg.txControl second s.cfg.bit.antennaOn) = true → s.answers = as ++ rest →
      ∃ u t : State, exec .init s = .next u ∧ u.resume = t ∧ t.seq = .idle ∧ t.reply = .completed ∧
        t.ghost = .ready false ∧ t.answers = rest ∧
        t.trace = s.trace ++ (initTrace s.cfg ++ [.read s.cfg.reg.txControl test] ++
          setBitsTrace s.cfg.reg.txControl second s.cfg.bit.antennaOn) ∧ t.tmp = second ∧
        t.busFault = false ∧ t.txBuf = s.txBuf ∧ t.txLen = s.txLen ∧ t.cnt = s.cnt ∧ t.irqV = s.irqV ∧
        t.errV = s.errV ∧ t.crc = s.crc)

/-- R201: DEAUTHENTICATE reads the status register and writes it back with the crypto bit cleared and the other bits as
read, whatever they were; it writes `E.TMP`, and the result registers are unspecified afterwards (log entry 11); a failure of
either transaction is BusError there. The ghost state is READY by R335; the other registers keep their values by log entry
36, and the register space as written is log entry 20. -/
def Obligations.DeauthenticateClearsTheCryptoBit : Prop :=
  ∀ (s : State) (v : Byte) (rest : List Answer), s.Accepting →
    (∀ w, s.answers = .done v :: .done w :: rest →
      ∃ u : State, exec .deauthenticate s = .next u ∧ u.resume = { s.forgetResult with
        tmp := v, reply := .completed, ghost := .ready false, answers := rest,
        events := .write s.cfg.reg.status2 (v &&& ~~~s.cfg.bit.crypto1On) :: .read s.cfg.reg.status2 v :: s.events,
        mem := s.mem.write s.cfg.reg.status2.toNat (v &&& ~~~s.cfg.bit.crypto1On) }) ∧
    (s.answers = .failed :: rest →
      ∃ u t : State, exec .deauthenticate s = .next u ∧ u.resume = t ∧ t.seq = .fault ∧ t.busFault = true ∧
        t.reply = .busError s.cfg.reg.status2 .read ∧ t.events = .readFailed s.cfg.reg.status2 :: s.events ∧
        t.answers = rest) ∧
    (s.answers = .done v :: .failed :: rest →
      ∃ u t : State, exec .deauthenticate s = .next u ∧ u.resume = t ∧ t.seq = .fault ∧ t.busFault = true ∧
        t.reply = .busError s.cfg.reg.status2 .write ∧
        t.events = .writeFailed s.cfg.reg.status2 (v &&& ~~~s.cfg.bit.crypto1On) ::
          .read s.cfg.reg.status2 v :: s.events ∧ t.answers = rest)

/-! ## The command/response sequencer -/

/-- R220 with the outcome Ok of Transceive: exactly this trace; the response is drained byte by byte; `E.RXLEN` is the
clamped level and `E.RXBITS` the bit count (R233, R234); `E.CNT` has counted the polls down (R228). -/
def Obligations.TransceiveEndsOkWithTheResponse : Prop :=
  ∀ (s : State) (op : Op) (k : Nat) (irq lvl0 f0 last f1 err lvl ctl : Byte) (quiet rx : List Byte)
    (as rest : List Answer),
    s.seq = .run op k (.run .enable) → op.runs = .transceive → s.txLen.toNat ≤ 64 →
    PollSucceeds s.cfg .transceive quiet last → errorMasked s.cfg err = false →
    noTag s.cfg .transceive last = false → rx.length = clampLevel lvl →
    let es := startTrace s.cfg .transceive (firstBytes s.txBuf s.txLen.toNat) irq lvl0 f0 ++
      pollTrace s.cfg (quiet ++ [last]) ++ outcomeTrace s.cfg f1 err ++ responseTrace s.cfg lvl ctl rx
    tapeGives as es = true →
    ∃ t : State, drive (as ++ rest) s = drive rest (t.endRun op (k + es.length)) ∧ t.trace = s.trace ++ es ∧
      t.status = .ok ∧ t.rxLen.toNat = clampLevel lvl ∧ firstBytes t.rxBuf rx.length = rx ∧
      t.rxBits.toNat = bitCount (clampLevel lvl) (lastBits s.cfg ctl) % 1024 ∧
      t.cnt.toNat + (quiet.length + 1) = s.cfg.transceiveBudget.toNat ∧ t.irqV = last ∧ t.errV = err ∧ t.tmp = f1 ∧
      t.txBuf = s.txBuf ∧ t.txLen = s.txLen ∧ t.crc = s.crc

/-- R241 with the outcome Ok of MFAuthent: no start-send set, no readback, `E.RXLEN = 0` and `E.RXBITS = 0`. -/
def Obligations.MfAuthentEndsOkWithoutData : Prop :=
  ∀ (s : State) (op : Op) (k : Nat) (irq lvl0 f0 last f1 err : Byte) (quiet : List Byte) (as rest : List Answer),
    s.seq = .run op k (.run .enable) → op.runs = .mfAuthent → s.txLen.toNat ≤ 64 →
    PollSucceeds s.cfg .mfAuthent quiet last → errorMasked s.cfg err = false →
    noTag s.cfg .mfAuthent last = false →
    let es := startTrace s.cfg .mfAuthent (firstBytes s.txBuf s.txLen.toNat) irq lvl0 f0 ++
      pollTrace s.cfg (quiet ++ [last]) ++ outcomeTrace s.cfg f1 err
    tapeGives as es = true →
    ∃ t : State, drive (as ++ rest) s = drive rest (t.endRun op (k + es.length)) ∧ t.trace = s.trace ++ es ∧
      t.status = .ok ∧ t.rxLen = 0 ∧ t.rxBits = 0 ∧ t.rxBuf = s.rxBuf ∧ t.irqV = last ∧ t.errV = err ∧
      t.txBuf = s.txBuf ∧ t.txLen = s.txLen ∧ t.crc = s.crc

/-- R229: when the counter reaches 0 the outcome is ProtocolError with no data, whatever the last read showed, and no
further transaction is made: start-send is not cleared, the error register is not read. -/
def Obligations.ExhaustedPollEndsInProtocolError : Prop :=
  ∀ (s : State) (op : Op) (k : Nat) (irq lvl0 f0 last : Byte) (quiet : List Byte) (as rest : List Answer),
    s.seq = .run op k (.run .enable) → s.txLen.toNat ≤ 64 → PollExhausted s.cfg op.runs quiet →
    (op.runs = .transceive ∨ op.runs = .mfAuthent) →
    let es := startTrace s.cfg op.runs (firstBytes s.txBuf s.txLen.toNat) irq lvl0 f0 ++
      pollTrace s.cfg (quiet ++ [last])
    tapeGives as es = true →
    ∃ t : State, drive (as ++ rest) s = drive rest (t.endRun op (k + es.length)) ∧ t.trace = s.trace ++ es ∧
      t.status = .protocolError ∧ t.rxLen = 0 ∧ t.rxBits = 0 ∧ t.cnt = 0 ∧ t.irqV = last

/-- R231, R232 and their order (R237): after a poll that saw a bit, a masked error bit is ProtocolError; with none, the
NoTagError predicate on the last polled byte is NoTagError; neither reads the response. -/
def Obligations.ErrorBitsGoBeforeNoTagError : Prop :=
  ∀ (s : State) (op : Op) (k : Nat) (irq lvl0 f0 last f1 err : Byte) (quiet : List Byte) (as rest : List Answer),
    s.seq = .run op k (.run .enable) → (op.runs = .transceive ∨ op.runs = .mfAuthent) → s.txLen.toNat ≤ 64 →
    PollSucceeds s.cfg op.runs quiet last →
    (errorMasked s.cfg err = true ∨ noTag s.cfg op.runs last = true) →
    let es := startTrace s.cfg op.runs (firstBytes s.txBuf s.txLen.toNat) irq lvl0 f0 ++
      pollTrace s.cfg (quiet ++ [last]) ++ outcomeTrace s.cfg f1 err
    tapeGives as es = true →
    ∃ t : State, drive (as ++ rest) s = drive rest (t.endRun op (k + es.length)) ∧ t.trace = s.trace ++ es ∧
      t.status = (if errorMasked s.cfg err then .protocolError else .noTagError) ∧ t.rxLen = 0 ∧ t.rxBits = 0 ∧
      t.irqV = last ∧ t.errV = err ∧ t.txBuf = s.txBuf ∧ t.txLen = s.txLen ∧ t.crc = s.crc

/-- R238: the trace lengths of the sequencer. -/
def Obligations.SequencerTraceLengths : Prop :=
  ∀ (c : Config) (frame polls rx : List Byte) (irq lvl0 f0 f1 err lvl ctl : Byte),
    (startTrace c .transceive frame irq lvl0 f0 ++ pollTrace c polls).length = 9 + frame.length + polls.length ∧
    (startTrace c .transceive frame irq lvl0 f0 ++ pollTrace c polls ++ outcomeTrace c f1 err).length =
      12 + frame.length + polls.length ∧
    (startTrace c .transceive frame irq lvl0 f0 ++ pollTrace c polls ++ outcomeTrace c f1 err ++
      responseTrace c lvl ctl rx).length = 14 + frame.length + polls.length + rx.length ∧
    (startTrace c .mfAuthent frame irq lvl0 f0 ++ pollTrace c polls).length = 7 + frame.length + polls.length ∧
    (startTrace c .mfAuthent frame irq lvl0 f0 ++ pollTrace c polls ++ outcomeTrace c f1 err).length =
      10 + frame.length + polls.length

/-- R233: the level is clamped to 1..64, zero taken as one byte, and the bit count lies between 1 and 512 and fits its
register. -/
def Obligations.LevelIsClampedAndBitCountFits : Prop :=
  ∀ (c : Config) (lvl ctl : Byte), c.bit.rxLastBits = 0x07 →
    (lvl = 0 → clampLevel lvl = 1) ∧ (64 < lvl.toNat → clampLevel lvl = 64) ∧
    (1 ≤ lvl.toNat → lvl.toNat ≤ 64 → clampLevel lvl = lvl.toNat) ∧
    (lastBits c ctl ≠ 0 → bitCount (clampLevel lvl) (lastBits c ctl) = (clampLevel lvl - 1) * 8 + lastBits c ctl) ∧
    (lastBits c ctl = 0 → bitCount (clampLevel lvl) (lastBits c ctl) = clampLevel lvl * 8) ∧
    1 ≤ bitCount (clampLevel lvl) (lastBits c ctl) ∧ bitCount (clampLevel lvl) (lastBits c ctl) ≤ 512

/-! ## The CRC -/

/-- R268 to R270: the trace of `calculateCRC`, the same whichever way the poll leaves; the two bytes read become `E.CRC`
and are appended to the payload as they are; no status changes. That the bytes of `E.TXBUF` beyond the CRC keep their values
is log entry 33, that the other registers do log entry 36. -/
def Obligations.CrcIsReadAndAppendedHoweverThePollLeaves : Prop :=
  ∀ (s : State) (op : Op) (k : Nat) (irq lvl0 last lo hi : Byte) (quiet : List Byte) (as rest : List Answer),
    s.seq = .run op k (.crc .clearRead) → s.txLen.toNat ≤ 62 → CrcPollLeaves s.cfg quiet last →
    let es := crcTrace s.cfg (firstBytes s.txBuf s.txLen.toNat) irq lvl0 (quiet ++ [last]) lo hi
    tapeGives as es = true →
    ∃ t : State, drive (as ++ rest) s = drive rest (t.goto op (k + es.length) (.run .enable)) ∧ t.trace = s.trace ++ es ∧
      es.length = 7 + s.txLen.toNat + (quiet.length + 1) ∧ t.crc = #v[lo, hi] ∧
      t.txLen.toNat = s.txLen.toNat + 2 ∧
      firstBytes t.txBuf (s.txLen.toNat + 2) = firstBytes s.txBuf s.txLen.toNat ++ [lo, hi] ∧
      (∀ j, s.txLen.toNat + 2 ≤ j → byteAt t.txBuf j = byteAt s.txBuf j) ∧
      t.status = s.status ∧ t.rxBuf = s.rxBuf ∧ t.rxLen = s.rxLen ∧ t.rxBits = s.rxBits ∧ t.errV = s.errV

/-- R273, the residue: the CRC of a frame closed by its CRC bytes is 0. (R272 and R273 are general knowledge about the
chip; the engine computes no CRC.) -/
def Obligations.CrcOfAClosedFrameIsZero : Prop := ∀ l : List Byte, crcA (l ++ crcBytes (crcA l)) = 0

/-- Check values of R273. -/
def Obligations.CrcCheckValues : Prop :=
  crcA [] = 0x6363 ∧ crcA [0x00] = 0x51FE ∧ crcA [0x00, 0x00] = 0x1EA0 ∧ crcA [0x12, 0x34] = 0xCF26 ∧
  crcA [0x30, 0x00] = 0xA802 ∧ crcA [0x30, 0x04] = 0xEE26 ∧ crcA [0xA0, 0x04] = 0xF77B ∧
  crcA [0x50, 0x00] = 0xCD57 ∧ crcA [0x63, 0x63] = 0x0000

/-! ## The card operations, over every run -/

/-- R179(e), R284: an operation whose result has a status leaves it in `E.STATUS`; any status but Ok comes with no data,
`E.RXLEN = 0` and `E.RXBITS = 0`, and the ghost state is READY, with a DEAUTHENTICATE owed after a failure in AUTHENTICATED
(R335, log entry 18). INIT and DEAUTHENTICATE report none. Which status it is: a status of the exchange other than Ok is
reported as it is (R187, R193, R198, R208, R213), by SCAN as ProtocolError (R182); after an Ok exchange it is never NoTagError,
and for SELECT and AUTHENTICATE it is Ok. A card frame run by itself reports the TransceiveResult (R23; log entries 5 and 28):
the status of its exchange, and with Ok the received bytes and the bit count, else no data. -/
def Obligations.FailedOperationsReturnNoData : Prop :=
  ∀ (i : Instr) (s t : State) (st : Status) (data : List Byte) (bits : Option (BitVec 10)),
    Runs i s t → t.reply = .result st data bits →
    t.seq = .idle ∧ t.status = st ∧
    (st ≠ .ok → data = [] ∧ t.rxLen = 0 ∧ t.rxBits = 0 ∧ (bits = none ∨ bits = some 0)) ∧
    (i.port = .host →
      i ≠ .init ∧ i ≠ .deauthenticate ∧
      (st ≠ .ok → t.ghost = s.ghost.failed ∧
        (∀ b, s.ghost = .authenticated b → t.ghost.allows .scan = false ∧ t.ghost.allows .deauthenticate = true)) ∧
      (t.exchangeStatus i.op.runs ≠ .ok →
        st = if i = .scan then .protocolError else t.exchangeStatus i.op.runs) ∧
      (t.exchangeStatus i.op.runs = .ok → st ≠ .noTagError) ∧
      (t.exchangeStatus i.op.runs = .ok →
        i.op = .select ∨ i.op = .authenticate → st = .ok)) ∧
    (i.port ≠ .host →
      i.port = .frame ∧ st = t.exchangeStatus i.op.runs ∧ t.ghost = s.ghost ∧
      (st = .ok → data = firstBytes t.rxBuf t.rxLen.toNat ∧ bits = some t.rxBits) ∧
      (st ≠ .ok → bits = some 0))

/-- R182, R183: SCAN reports Ok or ProtocolError, never NoTagError; Ok only with exactly 16 bits, and then two bytes were
drained and are returned. -/
def Obligations.ScanIsOkOnlyOnSixteenBits : Prop :=
  ∀ (s t : State) (st : Status) (data : List Byte) (bits : Option (BitVec 10)),
    s.cfg.Wf → Runs .scan s t → t.reply = .result st data bits →
    (st = .ok ∨ st = .protocolError) ∧
    (st = .ok → t.rxBits = 16 ∧ t.rxLen = 2 ∧ data = firstBytes t.rxBuf 2 ∧ data.length = 2 ∧
      t.ghost = .requested) ∧
    (st ≠ .ok → t.ghost = s.ghost.failed)

/-- R187, R188: IDENTIFY reports Ok only with five bytes whose last is the exclusive-or of the others, and returns
them; the ghost state is then IDENTIFIED (R335). -/
def Obligations.IdentifyIsOkOnlyOnAValidIdentity : Prop :=
  ∀ (s t : State) (st : Status) (data : List Byte) (bits : Option (BitVec 10)),
    Runs .identify s t → t.reply = .result st data bits → st = .ok →
    t.rxLen = 5 ∧ data = firstBytes t.rxBuf 5 ∧ data.length = 5 ∧
    byteAt t.rxBuf 4 = byteAt t.rxBuf 0 ^^^ byteAt t.rxBuf 1 ^^^ byteAt t.rxBuf 2 ^^^ byteAt t.rxBuf 3 ∧
    t.ghost = .identified

/-- R189: five bytes are accepted by identity validation exactly when the last is the exclusive-or of the first four, and
an identity whose check byte is wrong is rejected whatever the status of the exchange. -/
def Obligations.IdentityIsAcceptedExactlyOnItsCheckByte : Prop :=
  ∀ s : State, s.rxLen = 5 →
    (s.status = .ok →
      (s.endIdentify.reply = .result .ok (firstBytes s.rxBuf 5) none ↔
        byteAt s.rxBuf 4 = byteAt s.rxBuf 0 ^^^ byteAt s.rxBuf 1 ^^^ byteAt s.rxBuf 2 ^^^ byteAt s.rxBuf 3)) ∧
    (byteAt s.rxBuf 4 ≠ byteAt s.rxBuf 0 ^^^ byteAt s.rxBuf 1 ^^^ byteAt s.rxBuf 2 ^^^ byteAt s.rxBuf 3 →
      ∀ data bits, s.endIdentify.reply ≠ .result .ok data bits)

/-- R193, R23, R235: SELECT with Ok returns the received bytes and the bit count, at least one byte and at most 64, the
last with 1 to 8 valid bits; the ghost state is then SELECTED (R335). -/
def Obligations.SelectReturnsTheResponseAsReceived : Prop :=
  ∀ (sn : Bytes 5) (s t : State) (st : Status) (data : List Byte) (bits : Option (BitVec 10)),
    s.cfg.Wf → Runs (.select sn) s t → t.reply = .result st data bits → st = .ok →
    data = firstBytes t.rxBuf t.rxLen.toNat ∧ data.length = t.rxLen.toNat ∧ 1 ≤ data.length ∧ data.length ≤ 64 ∧
    bits = some t.rxBits ∧ (data.length - 1) * 8 < t.rxBits.toNat ∧ t.rxBits.toNat ≤ data.length * 8 ∧
    t.ghost = .selected

/-- R197, R198: AUTHENTICATE returns a status only, and leaves `E.RXLEN = 0` and `E.RXBITS = 0` always; its last error
byte and polled byte decide the status. R300: the key is not stored beyond the operation: two runs that differ only in the
key, once they have ended, leave states that differ only in the history, the model's own record (R95); the operand blocks run
by themselves (log entry 5) too (that the key bytes of `E.TXBUF` are forgotten, although program P2 lists them, is log entry
37). The ghost state holds the block where R335 says the sector (log entry 18). -/
def Obligations.AuthenticateReturnsAStatusAndForgetsTheKey : Prop :=
  (∀ (k : Bool) (b : Byte) (key : Bytes 6) (uid : Bytes 4) (s t : State) (st : Status) (data : List Byte)
    (bits : Option (BitVec 10)),
    Runs (.authenticate k b key uid) s t → t.reply = .result st data bits →
    data = [] ∧ bits = none ∧ t.rxLen = 0 ∧ t.rxBits = 0 ∧ t.txLen = 12 ∧
    firstBytes t.txBuf 2 = [if k then s.cfg.picc.authB else s.cfg.picc.authA, b] ∧
    (∀ j, j < 4 → byteAt t.txBuf (8 + j) = byteAt uid j) ∧
    (st = .ok → errorMasked s.cfg t.errV = false ∧ noTag s.cfg .mfAuthent t.irqV = false ∧
      t.ghost = .authenticated b)) ∧
  (∀ (k : Bool) (b : Byte) (key key' : Bytes 6) (uid : Bytes 4) (s t t' : State), t.running = false →
    (Runs (.authenticate k b key uid) s t → Runs (.authenticate k b key' uid) s t' →
      { t with events := [] } = { t' with events := [] }) ∧
    (Runs (.authblkA b key uid) s t → Runs (.authblkA b key' uid) s t' →
      { t with events := [] } = { t' with events := [] }) ∧
    (Runs (.authblkB b key uid) s t → Runs (.authblkB b key' uid) s t' →
      { t with events := [] } = { t' with events := [] }))

/-- R207, R208: READ with Ok returns exactly the first 16 of at least 16 received bytes. -/
def Obligations.ReadReturnsExactlySixteenBytes : Prop :=
  ∀ (b : Byte) (s t : State) (st : Status) (data : List Byte) (bits : Option (BitVec 10)),
    Runs (.read b) s t → t.reply = .result st data bits → st = .ok →
    data = firstBytes t.rxBuf 16 ∧ data.length = 16 ∧ 16 ≤ t.rxLen.toNat ∧ t.txLen = 4 ∧
    firstBytes t.txBuf 4 = [s.cfg.picc.read, b] ++ t.crc.toList

/-- R209, R211, R213: no step of the machine enters phase 2 of WRITE but from the exchange of phase 1 with status Ok, the
acknowledgment passed and the 16 data bytes staged, and it enters at its first transaction. While phase 1 exchanges, one
more transaction leads to phase 1 again, to phase 2 so, or out of the operation without Ok. -/
def Obligations.PhaseTwoFollowsOnlyAnOkPhaseOne : Prop :=
  (∀ (s t : State) (k' : Nat) (q : Point), step s = .next t → t.seq = .run (.write .two) k' q →
    (∃ k p, s.seq = .run (.write .two) k p) ∨
    (∃ k p, s.seq = .run (.write .one) k (.run p) ∧ k' = k + 1 ∧ q = .crc .clearRead ∧ t.status = .ok ∧
      ackPasses s.cfg t.rxBits t.rxBuf = true ∧ t.txLen = 16 ∧ firstBytes t.txBuf 16 = s.data.toList)) ∧
  (∀ (s : State) (k : Nat) (p : RunPoint) (a : Answer), s.seq = .run (.write .one) k (.run p) →
    (∃ q, (tick s a).seq = .run (.write .one) (k + 1) (.run q)) ∨
    ((tick s a).seq = .run (.write .two) (k + 1) (.crc .clearRead) ∧ (tick s a).status = .ok ∧
      ackPasses s.cfg (tick s a).rxBits (tick s a).rxBuf = true ∧ (tick s a).txLen = 16 ∧
      firstBytes (tick s a).txBuf 16 = s.data.toList) ∨
    ((tick s a).seq = .idle ∧ ∃ st, st ≠ Status.ok ∧ (tick s a).reply = .result st [] none) ∨
    ((tick s a).seq = .fault ∧ a = .failed))

/-- R213: WRITE returns a status only; Ok comes only after phase 2 sent the data: the frame in `E.TXBUF` is then the 16
operand bytes and their CRC bytes. -/
def Obligations.WriteIsOkOnlyAfterTheDataFrame : Prop :=
  ∀ (b : Byte) (d : Bytes 16) (s t : State) (st : Status) (data : List Byte) (bits : Option (BitVec 10)),
    Runs (.write b d) s t → t.reply = .result st data bits →
    data = [] ∧ bits = none ∧
    (st = .ok → t.txLen = 18 ∧ firstBytes t.txBuf 18 = d.toList ++ t.crc.toList ∧
      ackPasses s.cfg t.rxBits t.rxBuf = true)

/-- R228, R229 for SCAN: a bus that never shows a terminating bit makes SCAN report ProtocolError after exactly the
budget of poll reads. -/
def Obligations.ScanReportsProtocolErrorAfterExactlyTheBudget : Prop :=
  ∀ (s : State) (irq lvl0 f0 last : Byte) (quiet : List Byte) (as rest : List Answer),
    s.Accepting → s.cfg.budgetsOk = true → PollExhausted s.cfg .transceive quiet →
    let es := .write s.cfg.reg.bitFraming 0x07 ::
      (startTrace s.cfg .transceive [s.cfg.picc.request] irq lvl0 f0 ++ pollTrace s.cfg (quiet ++ [last]))
    tapeGives as es = true → s.answers = as ++ rest →
    ∃ u t : State, exec .scan s = .next u ∧ u.resume = t ∧ t.seq = .idle ∧ t.reply = .result .protocolError [] none ∧
      t.trace = s.trace ++ es ∧ es.length = 11 + s.cfg.transceiveBudget.toNat ∧ t.answers = rest

/-- SCAN end to end (R180 to R183): given a bus whose exchange succeeds with the bytes `rx`, SCAN makes exactly this
trace and reports Ok with the bytes when the level was 2 and the last byte whole, else ProtocolError with none. -/
def Obligations.ScanReturnsTheAnswerTheBusDelivers : Prop :=
  ∀ (s : State) (irq lvl0 f0 last f1 err lvl ctl : Byte) (quiet rx : List Byte) (as rest : List Answer),
    s.Accepting → s.cfg.Wf → PollSucceeds s.cfg .transceive quiet last → errorMasked s.cfg err = false →
    noTag s.cfg .transceive last = false → rx.length = clampLevel lvl →
    let es := .write s.cfg.reg.bitFraming 0x07 ::
      (startTrace s.cfg .transceive [s.cfg.picc.request] irq lvl0 f0 ++ pollTrace s.cfg (quiet ++ [last]) ++
        outcomeTrace s.cfg f1 err ++ responseTrace s.cfg lvl ctl rx)
    tapeGives as es = true → s.answers = as ++ rest →
    ∃ u t : State, exec .scan s = .next u ∧ u.resume = t ∧ t.seq = .idle ∧ t.busFault = false ∧ t.trace = s.trace ++ es ∧
      t.answers = rest ∧
      t.reply = (if rx.length = 2 ∧ lastBits s.cfg ctl = 0 then .result .ok rx none
        else .result .protocolError [] none)

/-- IDENTIFY end to end (R185 to R189): Ok with the five bytes exactly when five were drained and the last is the
exclusive-or of the others, else ProtocolError with none. -/
def Obligations.IdentifyReturnsTheIdentityTheBusDelivers : Prop :=
  ∀ (s : State) (irq lvl0 f0 last f1 err lvl ctl : Byte) (quiet rx : List Byte) (as rest : List Answer),
    s.Accepting → s.cfg.Wf → PollSucceeds s.cfg .transceive quiet last → errorMasked s.cfg err = false →
    noTag s.cfg .transceive last = false → rx.length = clampLevel lvl →
    let es := .write s.cfg.reg.bitFraming 0x00 ::
      (startTrace s.cfg .transceive [s.cfg.picc.selCL1, s.cfg.picc.nvbAnticoll] irq lvl0 f0 ++
        pollTrace s.cfg (quiet ++ [last]) ++ outcomeTrace s.cfg f1 err ++ responseTrace s.cfg lvl ctl rx)
    tapeGives as es = true → s.answers = as ++ rest →
    ∃ u t : State, exec .identify s = .next u ∧ u.resume = t ∧ t.seq = .idle ∧ t.busFault = false ∧ t.trace = s.trace ++ es ∧
      t.answers = rest ∧
      t.reply = (if rx.length = 5 ∧
          rx.getD 4 0 = rx.getD 0 0 ^^^ rx.getD 1 0 ^^^ rx.getD 2 0 ^^^ rx.getD 3 0 then .result .ok rx none
        else .result .protocolError [] none)

/-- SELECT end to end (R191 to R193, R270): the payload is closed by the CRC bytes the bus answered, and the response is
returned as received with its bit count. -/
def Obligations.SelectReturnsTheResponseTheBusDelivers : Prop :=
  ∀ (sn : Bytes 5) (s : State) (irq1 lvl1 last1 lo hi irq lvl0 f0 last f1 err lvl ctl : Byte)
    (quiet1 quiet rx : List Byte) (as rest : List Answer),
    s.Accepting → s.cfg.Wf → CrcPollLeaves s.cfg quiet1 last1 → PollSucceeds s.cfg .transceive quiet last →
    errorMasked s.cfg err = false → noTag s.cfg .transceive last = false → rx.length = clampLevel lvl →
    let payload := s.cfg.picc.selCL1 :: s.cfg.picc.nvbSelect :: sn.toList
    let es := crcTrace s.cfg payload irq1 lvl1 (quiet1 ++ [last1]) lo hi ++
      startTrace s.cfg .transceive (payload ++ [lo, hi]) irq lvl0 f0 ++
      pollTrace s.cfg (quiet ++ [last]) ++ outcomeTrace s.cfg f1 err ++ responseTrace s.cfg lvl ctl rx
    tapeGives as es = true → s.answers = as ++ rest →
    ∃ u t : State, exec (.select sn) s = .next u ∧ u.resume = t ∧ t.seq = .idle ∧ t.busFault = false ∧ t.trace = s.trace ++ es ∧
      t.answers = rest ∧ t.crc = #v[lo, hi] ∧ t.sn = sn ∧
      t.reply = .result .ok rx (some (BitVec.ofNat 10 (bitCount rx.length (lastBits s.cfg ctl))))

/-- AUTHENTICATE end to end (R196, R197, R241): the operand block in order, key A or key B by the selector, no start-send,
no readback; a status and no data. -/
def Obligations.AuthenticateEndsOkOnTheBlockInOrder : Prop :=
  ∀ (k : Bool) (b : Byte) (key : Bytes 6) (uid : Bytes 4) (s : State) (irq lvl0 f0 last f1 err : Byte)
    (quiet : List Byte) (as rest : List Answer),
    s.Accepting → s.cfg.budgetsOk = true → PollSucceeds s.cfg .mfAuthent quiet last →
    errorMasked s.cfg err = false → noTag s.cfg .mfAuthent last = false →
    let block := (if k then s.cfg.picc.authB else s.cfg.picc.authA) :: b :: (key.toList ++ uid.toList)
    let es := startTrace s.cfg .mfAuthent block irq lvl0 f0 ++ pollTrace s.cfg (quiet ++ [last]) ++
      outcomeTrace s.cfg f1 err
    tapeGives as es = true → s.answers = as ++ rest →
    ∃ u t : State, exec (.authenticate k b key uid) s = .next u ∧ u.resume = t ∧ t.seq = .idle ∧ t.busFault = false ∧
      t.reply = .result .ok [] none ∧ t.trace = s.trace ++ es ∧ es.length = 22 + (quiet.length + 1) ∧
      t.answers = rest ∧ t.rxLen = 0 ∧ t.rxBits = 0 ∧ t.ghost = .authenticated b

/-- READ end to end (R206, R207, R268, R220): given a bus that answers the CRC bytes and, with Ok, a response of 16 bytes or more,
READ makes exactly this trace, sends the payload closed by the CRC bytes, and returns the first 16 bytes unchanged; a shorter
response is ProtocolError (R208). -/
def Obligations.ReadReturnsTheBlockTheBusDelivers : Prop :=
  ∀ (b : Byte) (s : State) (irq1 lvl1 last1 lo hi irq lvl0 f0 last f1 err lvl ctl : Byte)
    (quiet1 quiet rx : List Byte) (as rest : List Answer),
    s.Accepting → s.cfg.Wf → CrcPollLeaves s.cfg quiet1 last1 → PollSucceeds s.cfg .transceive quiet last →
    errorMasked s.cfg err = false → noTag s.cfg .transceive last = false → rx.length = clampLevel lvl →
    let es := crcTrace s.cfg [s.cfg.picc.read, b] irq1 lvl1 (quiet1 ++ [last1]) lo hi ++
      startTrace s.cfg .transceive [s.cfg.picc.read, b, lo, hi] irq lvl0 f0 ++
      pollTrace s.cfg (quiet ++ [last]) ++ outcomeTrace s.cfg f1 err ++ responseTrace s.cfg lvl ctl rx
    tapeGives as es = true → s.answers = as ++ rest →
    ∃ u t : State, exec (.read b) s = .next u ∧ u.resume = t ∧ t.seq = .idle ∧ t.busFault = false ∧
      t.trace = s.trace ++ es ∧ t.answers = rest ∧ t.crc = #v[lo, hi] ∧ t.blk = b ∧
      (16 ≤ rx.length →
        t.status = .ok ∧ t.reply = .result .ok (rx.take 16) none ∧ t.rxLen.toNat = rx.length) ∧
      (rx.length < 16 → t.status = .protocolError ∧ t.reply = .result .protocolError [] none)

/-- WRITE end to end (R209 to R213): with both exchanges Ok and, where `CFG.ackCheck` is true, the right acknowledgment after
phase 1 (4 bits with the value `PICC.Ack`), phase 1 sends command, address and CRC bytes, phase 2 sends the 16 data bytes and
their CRC bytes, in exactly this trace; it ends Ok, or ProtocolError where the check finds a wrong acknowledgment after
phase 2. -/
def Obligations.WriteSendsTheCommandThenTheData : Prop :=
  ∀ (b : Byte) (d : Bytes 16) (s : State) (irq1 lvl1 last1 lo hi irq lvl0 f0 last f1 err lvl ctl : Byte)
    (quiet1 quiet rx : List Byte) (irq1' lvl1' last1' lo' hi' irq' lvl0' f0' last' f1' err' lvl' ctl' : Byte)
    (quiet1' quiet' rx' : List Byte) (as rest : List Answer),
    s.Accepting → s.cfg.Wf →
    CrcPollLeaves s.cfg quiet1 last1 → PollSucceeds s.cfg .transceive quiet last →
    errorMasked s.cfg err = false → noTag s.cfg .transceive last = false → rx.length = clampLevel lvl →
    (s.cfg.ackCheck = true → Acknowledged s.cfg rx ctl) →
    CrcPollLeaves s.cfg quiet1' last1' → PollSucceeds s.cfg .transceive quiet' last' →
    errorMasked s.cfg err' = false → noTag s.cfg .transceive last' = false → rx'.length = clampLevel lvl' →
    let es := crcTrace s.cfg [s.cfg.picc.write, b] irq1 lvl1 (quiet1 ++ [last1]) lo hi ++
      startTrace s.cfg .transceive [s.cfg.picc.write, b, lo, hi] irq lvl0 f0 ++
      pollTrace s.cfg (quiet ++ [last]) ++ outcomeTrace s.cfg f1 err ++ responseTrace s.cfg lvl ctl rx ++
      (crcTrace s.cfg d.toList irq1' lvl1' (quiet1' ++ [last1']) lo' hi' ++
        startTrace s.cfg .transceive (d.toList ++ [lo', hi']) irq' lvl0' f0' ++
        pollTrace s.cfg (quiet' ++ [last']) ++ outcomeTrace s.cfg f1' err' ++ responseTrace s.cfg lvl' ctl' rx')
    tapeGives as es = true → s.answers = as ++ rest →
    ∃ u t : State, exec (.write b d) s = .next u ∧ u.resume = t ∧ t.seq = .idle ∧ t.busFault = false ∧
      t.reply = (if s.cfg.ackCheck = true ∧ ¬ Acknowledged s.cfg rx' ctl' then .result .protocolError [] none
        else .result .ok [] none) ∧
      t.trace = s.trace ++ es ∧ t.answers = rest ∧ t.crc = #v[lo', hi'] ∧ t.blk = b ∧ t.data = d

/-! ## The card frames run by themselves -/

/-- R111 to R117: the bytes of the frame stand in `E.TXBUF` from index 0 and `E.TXLEN` is their number, as soon as the
framing write of the two frames that have one has completed, and until a key in it is forgotten (R300), whatever the exchange
then gives; the bytes beyond them keep their values (log entry 33). -/
def Obligations.FrameIsStagedByteForByte : Prop :=
  ∀ (i : Instr) (s t : State), i.port = .frame → Runs i s t →
    (i = .request ∨ i = .anticoll → ∃ v rest, s.answers = .done v :: rest) →
    t.txLen.toNat = (encodeBytes s.cfg i).length ∧
    ((i.op.takesKey = true → t.running = true) →
      firstBytes t.txBuf (encodeBytes s.cfg i).length = encodeBytes s.cfg i) ∧
    (∀ j, (encodeBytes s.cfg i).length ≤ j → byteAt t.txBuf j = byteAt s.txBuf j)

/-- R209, R211, R213: WRITE end to end with a phase 1 that fails, by a masked error bit or the NoTagError predicate, by an exhausted poll, or (with `CFG.ackCheck`) by an
acknowledgment that is not 4 bits of the right value: it ends with that status, and its trace stops with phase 1's last
transaction. -/
def Obligations.WriteEndsWithItsFirstPhaseWhereThatFails : Prop :=
  ∀ (b : Byte) (d : Bytes 16) (s : State) (irq1 lvl1 last1 lo hi irq lvl0 f0 last : Byte) (quiet1 quiet : List Byte)
    (as rest : List Answer),
    s.Accepting → s.cfg.Wf → CrcPollLeaves s.cfg quiet1 last1 → s.answers = as ++ rest →
    let es := crcTrace s.cfg [s.cfg.picc.write, b] irq1 lvl1 (quiet1 ++ [last1]) lo hi ++
      startTrace s.cfg .transceive [s.cfg.picc.write, b, lo, hi] irq lvl0 f0 ++
      pollTrace s.cfg (quiet ++ [last])
    (∀ f1 err : Byte, PollSucceeds s.cfg .transceive quiet last →
      (errorMasked s.cfg err = true ∨ noTag s.cfg .transceive last = true) →
      tapeGives as (es ++ outcomeTrace s.cfg f1 err) = true →
      ∃ u t : State, exec (.write b d) s = .next u ∧ u.resume = t ∧ t.seq = .idle ∧ t.answers = rest ∧
        t.reply = .result (if errorMasked s.cfg err then .protocolError else .noTagError) [] none ∧
        t.trace = s.trace ++ (es ++ outcomeTrace s.cfg f1 err)) ∧
    (PollExhausted s.cfg .transceive quiet → tapeGives as es = true →
      ∃ u t : State, exec (.write b d) s = .next u ∧ u.resume = t ∧ t.seq = .idle ∧ t.answers = rest ∧
        t.reply = .result .protocolError [] none ∧ t.trace = s.trace ++ es) ∧
    (∀ (f1 err lvl ctl : Byte) (rx : List Byte), s.cfg.ackCheck = true → PollSucceeds s.cfg .transceive quiet last →
      errorMasked s.cfg err = false → noTag s.cfg .transceive last = false → rx.length = clampLevel lvl →
      ¬ Acknowledged s.cfg rx ctl →
      tapeGives as (es ++ outcomeTrace s.cfg f1 err ++ responseTrace s.cfg lvl ctl rx) = true →
      ∃ u t : State, exec (.write b d) s = .next u ∧ u.resume = t ∧ t.seq = .idle ∧ t.answers = rest ∧
        t.reply = .result .protocolError [] none ∧
        t.trace = s.trace ++ (es ++ outcomeTrace s.cfg f1 err ++ responseTrace s.cfg lvl ctl rx))

/-- Frames (log entry 36): INIT and DEAUTHENTICATE leave every register but `E.TMP` and the result registers; bus words and
commands write none; the operations without a CRC leave `E.CRC`, unless a bus error made it unspecified. Inside `RunCommand`
no transaction changes `E.CRC` or an operand latch, `E.ERRV` changes at the error read alone, `E.IRQV` at the polls alone, and
the staged frame stays while the operation goes on. -/
def Obligations.OperationsLeaveTheOtherRegisters : Prop :=
  (∀ (i : Instr) (s t : State), Reaches i s t →
    (i ∈ [Instr.init, .deauthenticate] →
      t.txBuf = s.txBuf ∧ t.txLen = s.txLen ∧ t.cnt = s.cnt ∧ t.irqV = s.irqV ∧ t.errV = s.errV ∧
      t.blk = s.blk ∧ t.keyB = s.keyB ∧ t.key = s.key ∧ t.sn = s.sn ∧ t.data = s.data) ∧
    (i.port = .bus ∨ i.port = .command →
      t.txBuf = s.txBuf ∧ t.txLen = s.txLen ∧ t.cnt = s.cnt ∧ t.irqV = s.irqV ∧ t.errV = s.errV ∧ t.tmp = s.tmp) ∧
    ((∀ sn, i ≠ .select sn) → (∀ b, i ≠ .read b) → (∀ b d, i ≠ .write b d) → t.busFault = false →
      t.crc = s.crc)) ∧
  (∀ (s : State) (op : Op) (k : Nat) (p : RunPoint) (v : Byte), s.seq = .run op k (.run p) →
    let t := tick s (.done v)
    t.crc = s.crc ∧ (p ≠ .error → t.errV = s.errV) ∧ (p ≠ .poll → t.irqV = s.irqV) ∧
    t.blk = s.blk ∧ t.keyB = s.keyB ∧ t.sn = s.sn ∧ t.data = s.data ∧ (op.takesKey = false → t.key = s.key) ∧
    (∀ k' q, t.seq = .run op k' q → t.txBuf = s.txBuf ∧ t.txLen = s.txLen ∧ t.key = s.key))
end

