-- ==== Sys2Proof/Laws/State.lean ====
section
/-! SUPPORT. What each update of the state leaves in each field: one equation per field per update, so that no proof unfolds a
record update. -/

namespace Sys2Proof.Machine

variable (s : State)

/-! `State.record` -/
@[simp] theorem State.record_cfg (r : Request) (v : Byte) : (s.record r v).cfg = s.cfg := rfl
@[simp] theorem State.record_seq (r : Request) (v : Byte) : (s.record r v).seq = s.seq := rfl
@[simp] theorem State.record_busFault (r : Request) (v : Byte) : (s.record r v).busFault = s.busFault := rfl
@[simp] theorem State.record_txBuf (r : Request) (v : Byte) : (s.record r v).txBuf = s.txBuf := rfl
@[simp] theorem State.record_txLen (r : Request) (v : Byte) : (s.record r v).txLen = s.txLen := rfl
@[simp] theorem State.record_rxBuf (r : Request) (v : Byte) : (s.record r v).rxBuf = s.rxBuf := rfl
@[simp] theorem State.record_rxLen (r : Request) (v : Byte) : (s.record r v).rxLen = s.rxLen := rfl
@[simp] theorem State.record_rxBits (r : Request) (v : Byte) : (s.record r v).rxBits = s.rxBits := rfl
@[simp] theorem State.record_status (r : Request) (v : Byte) : (s.record r v).status = s.status := rfl
@[simp] theorem State.record_cnt (r : Request) (v : Byte) : (s.record r v).cnt = s.cnt := rfl
@[simp] theorem State.record_irqV (r : Request) (v : Byte) : (s.record r v).irqV = s.irqV := rfl
@[simp] theorem State.record_errV (r : Request) (v : Byte) : (s.record r v).errV = s.errV := rfl
@[simp] theorem State.record_tmp (r : Request) (v : Byte) : (s.record r v).tmp = s.tmp := rfl
@[simp] theorem State.record_crc (r : Request) (v : Byte) : (s.record r v).crc = s.crc := rfl
@[simp] theorem State.record_blk (r : Request) (v : Byte) : (s.record r v).blk = s.blk := rfl
@[simp] theorem State.record_keyB (r : Request) (v : Byte) : (s.record r v).keyB = s.keyB := rfl
@[simp] theorem State.record_key (r : Request) (v : Byte) : (s.record r v).key = s.key := rfl
@[simp] theorem State.record_sn (r : Request) (v : Byte) : (s.record r v).sn = s.sn := rfl
@[simp] theorem State.record_data (r : Request) (v : Byte) : (s.record r v).data = s.data := rfl
@[simp] theorem State.record_answers (r : Request) (v : Byte) : (s.record r v).answers = s.answers := rfl
@[simp] theorem State.record_inbox (r : Request) (v : Byte) : (s.record r v).inbox = s.inbox := rfl
@[simp] theorem State.record_resetLine (r : Request) (v : Byte) : (s.record r v).resetLine = s.resetLine := rfl
@[simp] theorem State.record_reply (r : Request) (v : Byte) : (s.record r v).reply = s.reply := rfl
@[simp] theorem State.record_events (r : Request) (v : Byte) : (s.record r v).events = r.event v :: s.events := rfl
@[simp] theorem State.record_mem (r : Request) (v : Byte) : (s.record r v).mem = r.effect s.mem := rfl
@[simp] theorem State.record_ghost (r : Request) (v : Byte) : (s.record r v).ghost = s.ghost := rfl
@[simp] theorem State.record_fresh (r : Request) (v : Byte) : (s.record r v).fresh = s.fresh := rfl

/-! `State.forgetResult` -/
@[simp] theorem State.forgetResult_cfg : (s.forgetResult).cfg = s.cfg := rfl
@[simp] theorem State.forgetResult_seq : (s.forgetResult).seq = s.seq := rfl
@[simp] theorem State.forgetResult_busFault : (s.forgetResult).busFault = s.busFault := rfl
@[simp] theorem State.forgetResult_txBuf : (s.forgetResult).txBuf = s.txBuf := rfl
@[simp] theorem State.forgetResult_txLen : (s.forgetResult).txLen = s.txLen := rfl
@[simp] theorem State.forgetResult_rxBuf : (s.forgetResult).rxBuf = Config.freeBytes 64 s.fresh := rfl
@[simp] theorem State.forgetResult_rxLen : (s.forgetResult).rxLen = BitVec.ofNat 7 (Config.freeLen s.fresh).val := rfl
@[simp] theorem State.forgetResult_rxBits : (s.forgetResult).rxBits = BitVec.ofNat 10 (Config.freeBits s.fresh).val := rfl
@[simp] theorem State.forgetResult_status : (s.forgetResult).status = Config.freeStatus s.fresh := rfl
@[simp] theorem State.forgetResult_cnt : (s.forgetResult).cnt = s.cnt := rfl
@[simp] theorem State.forgetResult_irqV : (s.forgetResult).irqV = s.irqV := rfl
@[simp] theorem State.forgetResult_errV : (s.forgetResult).errV = s.errV := rfl
@[simp] theorem State.forgetResult_tmp : (s.forgetResult).tmp = s.tmp := rfl
@[simp] theorem State.forgetResult_crc : (s.forgetResult).crc = s.crc := rfl
@[simp] theorem State.forgetResult_blk : (s.forgetResult).blk = s.blk := rfl
@[simp] theorem State.forgetResult_keyB : (s.forgetResult).keyB = s.keyB := rfl
@[simp] theorem State.forgetResult_key : (s.forgetResult).key = s.key := rfl
@[simp] theorem State.forgetResult_sn : (s.forgetResult).sn = s.sn := rfl
@[simp] theorem State.forgetResult_data : (s.forgetResult).data = s.data := rfl
@[simp] theorem State.forgetResult_answers : (s.forgetResult).answers = s.answers := rfl
@[simp] theorem State.forgetResult_inbox : (s.forgetResult).inbox = s.inbox := rfl
@[simp] theorem State.forgetResult_resetLine : (s.forgetResult).resetLine = s.resetLine := rfl
@[simp] theorem State.forgetResult_reply : (s.forgetResult).reply = s.reply := rfl
@[simp] theorem State.forgetResult_events : (s.forgetResult).events = s.events := rfl
@[simp] theorem State.forgetResult_mem : (s.forgetResult).mem = s.mem := rfl
@[simp] theorem State.forgetResult_ghost : (s.forgetResult).ghost = s.ghost := rfl
@[simp] theorem State.forgetResult_fresh : (s.forgetResult).fresh = s.fresh + 1 := rfl

/-! `State.takeBusError` -/
@[simp] theorem State.takeBusError_cfg (r : Request) : (s.takeBusError r).cfg = s.cfg := rfl
@[simp] theorem State.takeBusError_seq (r : Request) : (s.takeBusError r).seq = .fault := rfl
@[simp] theorem State.takeBusError_busFault (r : Request) : (s.takeBusError r).busFault = true := rfl
@[simp] theorem State.takeBusError_txBuf (r : Request) : (s.takeBusError r).txBuf = s.txBuf := rfl
@[simp] theorem State.takeBusError_txLen (r : Request) : (s.takeBusError r).txLen = s.txLen := rfl
@[simp] theorem State.takeBusError_rxBuf (r : Request) : (s.takeBusError r).rxBuf = Config.freeBytes 64 s.fresh := rfl
@[simp] theorem State.takeBusError_rxLen (r : Request) : (s.takeBusError r).rxLen = BitVec.ofNat 7 (Config.freeLen s.fresh).val := rfl
@[simp] theorem State.takeBusError_rxBits (r : Request) : (s.takeBusError r).rxBits = BitVec.ofNat 10 (Config.freeBits s.fresh).val := rfl
@[simp] theorem State.takeBusError_status (r : Request) : (s.takeBusError r).status = Config.freeStatus s.fresh := rfl
@[simp] theorem State.takeBusError_cnt (r : Request) : (s.takeBusError r).cnt = s.cnt := rfl
@[simp] theorem State.takeBusError_irqV (r : Request) : (s.takeBusError r).irqV = s.irqV := rfl
@[simp] theorem State.takeBusError_errV (r : Request) : (s.takeBusError r).errV = s.errV := rfl
@[simp] theorem State.takeBusError_tmp (r : Request) : (s.takeBusError r).tmp = s.tmp := rfl
@[simp] theorem State.takeBusError_crc (r : Request) : (s.takeBusError r).crc = Config.freeBytes 2 s.fresh := rfl
@[simp] theorem State.takeBusError_blk (r : Request) : (s.takeBusError r).blk = s.blk := rfl
@[simp] theorem State.takeBusError_keyB (r : Request) : (s.takeBusError r).keyB = s.keyB := rfl
@[simp] theorem State.takeBusError_key (r : Request) : (s.takeBusError r).key = s.key := rfl
@[simp] theorem State.takeBusError_sn (r : Request) : (s.takeBusError r).sn = s.sn := rfl
@[simp] theorem State.takeBusError_data (r : Request) : (s.takeBusError r).data = s.data := rfl
@[simp] theorem State.takeBusError_answers (r : Request) : (s.takeBusError r).answers = s.answers := rfl
@[simp] theorem State.takeBusError_inbox (r : Request) : (s.takeBusError r).inbox = s.inbox := rfl
@[simp] theorem State.takeBusError_resetLine (r : Request) : (s.takeBusError r).resetLine = s.resetLine := rfl
@[simp] theorem State.takeBusError_reply (r : Request) : (s.takeBusError r).reply = .busError r.addr r.dir := rfl
@[simp] theorem State.takeBusError_events (r : Request) : (s.takeBusError r).events = r.failure :: s.events := rfl
@[simp] theorem State.takeBusError_mem (r : Request) : (s.takeBusError r).mem = r.failEffect s.mem := rfl
@[simp] theorem State.takeBusError_ghost (r : Request) : (s.takeBusError r).ghost = s.ghost := rfl
@[simp] theorem State.takeBusError_fresh (r : Request) : (s.takeBusError r).fresh = s.fresh + 1 := rfl

/-! `State.engineReset` -/
@[simp] theorem State.engineReset_cfg : (s.engineReset).cfg = s.cfg := rfl
@[simp] theorem State.engineReset_seq : (s.engineReset).seq = .idle := rfl
@[simp] theorem State.engineReset_busFault : (s.engineReset).busFault = false := rfl
@[simp] theorem State.engineReset_txBuf : (s.engineReset).txBuf = Config.freeBytes 64 s.fresh := rfl
@[simp] theorem State.engineReset_txLen : (s.engineReset).txLen = 0 := rfl
@[simp] theorem State.engineReset_rxBuf : (s.engineReset).rxBuf = Config.freeBytes 64 (s.fresh + 1) := rfl
@[simp] theorem State.engineReset_rxLen : (s.engineReset).rxLen = 0 := rfl
@[simp] theorem State.engineReset_rxBits : (s.engineReset).rxBits = 0 := rfl
@[simp] theorem State.engineReset_status : (s.engineReset).status = Config.freeStatus s.fresh := rfl
@[simp] theorem State.engineReset_cnt : (s.engineReset).cnt = 0 := rfl
@[simp] theorem State.engineReset_irqV : (s.engineReset).irqV = Config.freeByte s.fresh := rfl
@[simp] theorem State.engineReset_errV : (s.engineReset).errV = Config.freeByte (s.fresh + 1) := rfl
@[simp] theorem State.engineReset_tmp : (s.engineReset).tmp = Config.freeByte (s.fresh + 2) := rfl
@[simp] theorem State.engineReset_crc : (s.engineReset).crc = Config.freeBytes 2 s.fresh := rfl
@[simp] theorem State.engineReset_blk : (s.engineReset).blk = Config.freeByte (s.fresh + 3) := rfl
@[simp] theorem State.engineReset_keyB : (s.engineReset).keyB = Config.freeBool s.fresh := rfl
@[simp] theorem State.engineReset_key : (s.engineReset).key = Config.freeBytes 6 s.fresh := rfl
@[simp] theorem State.engineReset_sn : (s.engineReset).sn = Config.freeBytes 5 s.fresh := rfl
@[simp] theorem State.engineReset_data : (s.engineReset).data = Config.freeBytes 16 s.fresh := rfl
@[simp] theorem State.engineReset_answers : (s.engineReset).answers = s.answers := rfl
@[simp] theorem State.engineReset_inbox : (s.engineReset).inbox = s.inbox := rfl
@[simp] theorem State.engineReset_resetLine : (s.engineReset).resetLine = false := rfl
@[simp] theorem State.engineReset_reply : (s.engineReset).reply = .nothing := rfl
@[simp] theorem State.engineReset_events : (s.engineReset).events = s.events := rfl
@[simp] theorem State.engineReset_mem : (s.engineReset).mem = s.mem := rfl
@[simp] theorem State.engineReset_ghost : (s.engineReset).ghost = .uninit := rfl
@[simp] theorem State.engineReset_fresh : (s.engineReset).fresh = s.fresh + 4 := rfl

/-! `State.dropKey` -/
@[simp] theorem State.dropKey_cfg : (s.dropKey).cfg = s.cfg := rfl
@[simp] theorem State.dropKey_seq : (s.dropKey).seq = s.seq := rfl
@[simp] theorem State.dropKey_busFault : (s.dropKey).busFault = s.busFault := rfl
@[simp] theorem State.dropKey_txBuf : (s.dropKey).txBuf = putBytes s.txBuf 2 (Config.freeBytes 6 (s.fresh + 1)).toList := rfl
@[simp] theorem State.dropKey_txLen : (s.dropKey).txLen = s.txLen := rfl
@[simp] theorem State.dropKey_rxBuf : (s.dropKey).rxBuf = s.rxBuf := rfl
@[simp] theorem State.dropKey_rxLen : (s.dropKey).rxLen = s.rxLen := rfl
@[simp] theorem State.dropKey_rxBits : (s.dropKey).rxBits = s.rxBits := rfl
@[simp] theorem State.dropKey_status : (s.dropKey).status = s.status := rfl
@[simp] theorem State.dropKey_cnt : (s.dropKey).cnt = s.cnt := rfl
@[simp] theorem State.dropKey_irqV : (s.dropKey).irqV = s.irqV := rfl
@[simp] theorem State.dropKey_errV : (s.dropKey).errV = s.errV := rfl
@[simp] theorem State.dropKey_tmp : (s.dropKey).tmp = s.tmp := rfl
@[simp] theorem State.dropKey_crc : (s.dropKey).crc = s.crc := rfl
@[simp] theorem State.dropKey_blk : (s.dropKey).blk = s.blk := rfl
@[simp] theorem State.dropKey_keyB : (s.dropKey).keyB = s.keyB := rfl
@[simp] theorem State.dropKey_key : (s.dropKey).key = Config.freeBytes 6 s.fresh := rfl
@[simp] theorem State.dropKey_sn : (s.dropKey).sn = s.sn := rfl
@[simp] theorem State.dropKey_data : (s.dropKey).data = s.data := rfl
@[simp] theorem State.dropKey_answers : (s.dropKey).answers = s.answers := rfl
@[simp] theorem State.dropKey_inbox : (s.dropKey).inbox = s.inbox := rfl
@[simp] theorem State.dropKey_resetLine : (s.dropKey).resetLine = s.resetLine := rfl
@[simp] theorem State.dropKey_reply : (s.dropKey).reply = s.reply := rfl
@[simp] theorem State.dropKey_events : (s.dropKey).events = s.events := rfl
@[simp] theorem State.dropKey_mem : (s.dropKey).mem = s.mem := rfl
@[simp] theorem State.dropKey_ghost : (s.dropKey).ghost = s.ghost := rfl
@[simp] theorem State.dropKey_fresh : (s.dropKey).fresh = s.fresh + 2 := rfl

/-! `State.turnAway` -/
@[simp] theorem State.turnAway_cfg (why : TurnedAway) : (s.turnAway why).cfg = s.cfg := rfl
@[simp] theorem State.turnAway_seq (why : TurnedAway) : (s.turnAway why).seq = s.seq := rfl
@[simp] theorem State.turnAway_busFault (why : TurnedAway) : (s.turnAway why).busFault = s.busFault := rfl
@[simp] theorem State.turnAway_txBuf (why : TurnedAway) : (s.turnAway why).txBuf = s.txBuf := rfl
@[simp] theorem State.turnAway_txLen (why : TurnedAway) : (s.turnAway why).txLen = s.txLen := rfl
@[simp] theorem State.turnAway_rxBuf (why : TurnedAway) : (s.turnAway why).rxBuf = s.rxBuf := rfl
@[simp] theorem State.turnAway_rxLen (why : TurnedAway) : (s.turnAway why).rxLen = s.rxLen := rfl
@[simp] theorem State.turnAway_rxBits (why : TurnedAway) : (s.turnAway why).rxBits = s.rxBits := rfl
@[simp] theorem State.turnAway_status (why : TurnedAway) : (s.turnAway why).status = s.status := rfl
@[simp] theorem State.turnAway_cnt (why : TurnedAway) : (s.turnAway why).cnt = s.cnt := rfl
@[simp] theorem State.turnAway_irqV (why : TurnedAway) : (s.turnAway why).irqV = s.irqV := rfl
@[simp] theorem State.turnAway_errV (why : TurnedAway) : (s.turnAway why).errV = s.errV := rfl
@[simp] theorem State.turnAway_tmp (why : TurnedAway) : (s.turnAway why).tmp = s.tmp := rfl
@[simp] theorem State.turnAway_crc (why : TurnedAway) : (s.turnAway why).crc = s.crc := rfl
@[simp] theorem State.turnAway_blk (why : TurnedAway) : (s.turnAway why).blk = s.blk := rfl
@[simp] theorem State.turnAway_keyB (why : TurnedAway) : (s.turnAway why).keyB = s.keyB := rfl
@[simp] theorem State.turnAway_key (why : TurnedAway) : (s.turnAway why).key = s.key := rfl
@[simp] theorem State.turnAway_sn (why : TurnedAway) : (s.turnAway why).sn = s.sn := rfl
@[simp] theorem State.turnAway_data (why : TurnedAway) : (s.turnAway why).data = s.data := rfl
@[simp] theorem State.turnAway_answers (why : TurnedAway) : (s.turnAway why).answers = s.answers := rfl
@[simp] theorem State.turnAway_inbox (why : TurnedAway) : (s.turnAway why).inbox = s.inbox := rfl
@[simp] theorem State.turnAway_resetLine (why : TurnedAway) : (s.turnAway why).resetLine = s.resetLine := rfl
@[simp] theorem State.turnAway_reply (why : TurnedAway) : (s.turnAway why).reply = .turnedAway why := rfl
@[simp] theorem State.turnAway_events (why : TurnedAway) : (s.turnAway why).events = s.events := rfl
@[simp] theorem State.turnAway_mem (why : TurnedAway) : (s.turnAway why).mem = s.mem := rfl
@[simp] theorem State.turnAway_ghost (why : TurnedAway) : (s.turnAway why).ghost = s.ghost := rfl
@[simp] theorem State.turnAway_fresh (why : TurnedAway) : (s.turnAway why).fresh = s.fresh := rfl

/-! `State.enterOp` -/
@[simp] theorem State.enterOp_cfg (op : Op) (p : Point) : (s.enterOp op p).cfg = s.cfg := rfl
@[simp] theorem State.enterOp_seq (op : Op) (p : Point) : (s.enterOp op p).seq = .run op 0 p := rfl
@[simp] theorem State.enterOp_busFault (op : Op) (p : Point) : (s.enterOp op p).busFault = s.busFault := rfl
@[simp] theorem State.enterOp_txBuf (op : Op) (p : Point) : (s.enterOp op p).txBuf = s.txBuf := rfl
@[simp] theorem State.enterOp_txLen (op : Op) (p : Point) : (s.enterOp op p).txLen = s.txLen := rfl
@[simp] theorem State.enterOp_rxBuf (op : Op) (p : Point) : (s.enterOp op p).rxBuf = s.rxBuf := rfl
@[simp] theorem State.enterOp_rxLen (op : Op) (p : Point) : (s.enterOp op p).rxLen = s.rxLen := rfl
@[simp] theorem State.enterOp_rxBits (op : Op) (p : Point) : (s.enterOp op p).rxBits = s.rxBits := rfl
@[simp] theorem State.enterOp_status (op : Op) (p : Point) : (s.enterOp op p).status = s.status := rfl
@[simp] theorem State.enterOp_cnt (op : Op) (p : Point) : (s.enterOp op p).cnt = s.cnt := rfl
@[simp] theorem State.enterOp_irqV (op : Op) (p : Point) : (s.enterOp op p).irqV = s.irqV := rfl
@[simp] theorem State.enterOp_errV (op : Op) (p : Point) : (s.enterOp op p).errV = s.errV := rfl
@[simp] theorem State.enterOp_tmp (op : Op) (p : Point) : (s.enterOp op p).tmp = s.tmp := rfl
@[simp] theorem State.enterOp_crc (op : Op) (p : Point) : (s.enterOp op p).crc = s.crc := rfl
@[simp] theorem State.enterOp_blk (op : Op) (p : Point) : (s.enterOp op p).blk = s.blk := rfl
@[simp] theorem State.enterOp_keyB (op : Op) (p : Point) : (s.enterOp op p).keyB = s.keyB := rfl
@[simp] theorem State.enterOp_key (op : Op) (p : Point) : (s.enterOp op p).key = s.key := rfl
@[simp] theorem State.enterOp_sn (op : Op) (p : Point) : (s.enterOp op p).sn = s.sn := rfl
@[simp] theorem State.enterOp_data (op : Op) (p : Point) : (s.enterOp op p).data = s.data := rfl
@[simp] theorem State.enterOp_answers (op : Op) (p : Point) : (s.enterOp op p).answers = s.answers := rfl
@[simp] theorem State.enterOp_inbox (op : Op) (p : Point) : (s.enterOp op p).inbox = s.inbox := rfl
@[simp] theorem State.enterOp_resetLine (op : Op) (p : Point) : (s.enterOp op p).resetLine = s.resetLine := rfl
@[simp] theorem State.enterOp_reply (op : Op) (p : Point) : (s.enterOp op p).reply = .nothing := rfl
@[simp] theorem State.enterOp_events (op : Op) (p : Point) : (s.enterOp op p).events = s.events := rfl
@[simp] theorem State.enterOp_mem (op : Op) (p : Point) : (s.enterOp op p).mem = s.mem := rfl
@[simp] theorem State.enterOp_ghost (op : Op) (p : Point) : (s.enterOp op p).ghost = s.ghost := rfl
@[simp] theorem State.enterOp_fresh (op : Op) (p : Point) : (s.enterOp op p).fresh = s.fresh := rfl

/-! `State.goto` -/
@[simp] theorem State.goto_cfg (op : Op) (k : Nat) (p : Point) : (s.goto op k p).cfg = s.cfg := rfl
@[simp] theorem State.goto_seq (op : Op) (k : Nat) (p : Point) : (s.goto op k p).seq = .run op k p := rfl
@[simp] theorem State.goto_busFault (op : Op) (k : Nat) (p : Point) : (s.goto op k p).busFault = s.busFault := rfl
@[simp] theorem State.goto_txBuf (op : Op) (k : Nat) (p : Point) : (s.goto op k p).txBuf = s.txBuf := rfl
@[simp] theorem State.goto_txLen (op : Op) (k : Nat) (p : Point) : (s.goto op k p).txLen = s.txLen := rfl
@[simp] theorem State.goto_rxBuf (op : Op) (k : Nat) (p : Point) : (s.goto op k p).rxBuf = s.rxBuf := rfl
@[simp] theorem State.goto_rxLen (op : Op) (k : Nat) (p : Point) : (s.goto op k p).rxLen = s.rxLen := rfl
@[simp] theorem State.goto_rxBits (op : Op) (k : Nat) (p : Point) : (s.goto op k p).rxBits = s.rxBits := rfl
@[simp] theorem State.goto_status (op : Op) (k : Nat) (p : Point) : (s.goto op k p).status = s.status := rfl
@[simp] theorem State.goto_cnt (op : Op) (k : Nat) (p : Point) : (s.goto op k p).cnt = s.cnt := rfl
@[simp] theorem State.goto_irqV (op : Op) (k : Nat) (p : Point) : (s.goto op k p).irqV = s.irqV := rfl
@[simp] theorem State.goto_errV (op : Op) (k : Nat) (p : Point) : (s.goto op k p).errV = s.errV := rfl
@[simp] theorem State.goto_tmp (op : Op) (k : Nat) (p : Point) : (s.goto op k p).tmp = s.tmp := rfl
@[simp] theorem State.goto_crc (op : Op) (k : Nat) (p : Point) : (s.goto op k p).crc = s.crc := rfl
@[simp] theorem State.goto_blk (op : Op) (k : Nat) (p : Point) : (s.goto op k p).blk = s.blk := rfl
@[simp] theorem State.goto_keyB (op : Op) (k : Nat) (p : Point) : (s.goto op k p).keyB = s.keyB := rfl
@[simp] theorem State.goto_key (op : Op) (k : Nat) (p : Point) : (s.goto op k p).key = s.key := rfl
@[simp] theorem State.goto_sn (op : Op) (k : Nat) (p : Point) : (s.goto op k p).sn = s.sn := rfl
@[simp] theorem State.goto_data (op : Op) (k : Nat) (p : Point) : (s.goto op k p).data = s.data := rfl
@[simp] theorem State.goto_answers (op : Op) (k : Nat) (p : Point) : (s.goto op k p).answers = s.answers := rfl
@[simp] theorem State.goto_inbox (op : Op) (k : Nat) (p : Point) : (s.goto op k p).inbox = s.inbox := rfl
@[simp] theorem State.goto_resetLine (op : Op) (k : Nat) (p : Point) : (s.goto op k p).resetLine = s.resetLine := rfl
@[simp] theorem State.goto_reply (op : Op) (k : Nat) (p : Point) : (s.goto op k p).reply = s.reply := rfl
@[simp] theorem State.goto_events (op : Op) (k : Nat) (p : Point) : (s.goto op k p).events = s.events := rfl
@[simp] theorem State.goto_mem (op : Op) (k : Nat) (p : Point) : (s.goto op k p).mem = s.mem := rfl
@[simp] theorem State.goto_ghost (op : Op) (k : Nat) (p : Point) : (s.goto op k p).ghost = s.ghost := rfl
@[simp] theorem State.goto_fresh (op : Op) (k : Nat) (p : Point) : (s.goto op k p).fresh = s.fresh := rfl

/-! `State.stage` -/
@[simp] theorem State.stage_cfg (bytes : List Byte) : (s.stage bytes).cfg = s.cfg := rfl
@[simp] theorem State.stage_seq (bytes : List Byte) : (s.stage bytes).seq = s.seq := rfl
@[simp] theorem State.stage_busFault (bytes : List Byte) : (s.stage bytes).busFault = s.busFault := rfl
@[simp] theorem State.stage_txBuf (bytes : List Byte) : (s.stage bytes).txBuf = putBytes s.txBuf 0 bytes := rfl
@[simp] theorem State.stage_txLen (bytes : List Byte) : (s.stage bytes).txLen = BitVec.ofNat 7 bytes.length := rfl
@[simp] theorem State.stage_rxBuf (bytes : List Byte) : (s.stage bytes).rxBuf = s.rxBuf := rfl
@[simp] theorem State.stage_rxLen (bytes : List Byte) : (s.stage bytes).rxLen = s.rxLen := rfl
@[simp] theorem State.stage_rxBits (bytes : List Byte) : (s.stage bytes).rxBits = s.rxBits := rfl
@[simp] theorem State.stage_status (bytes : List Byte) : (s.stage bytes).status = s.status := rfl
@[simp] theorem State.stage_cnt (bytes : List Byte) : (s.stage bytes).cnt = s.cnt := rfl
@[simp] theorem State.stage_irqV (bytes : List Byte) : (s.stage bytes).irqV = s.irqV := rfl
@[simp] theorem State.stage_errV (bytes : List Byte) : (s.stage bytes).errV = s.errV := rfl
@[simp] theorem State.stage_tmp (bytes : List Byte) : (s.stage bytes).tmp = s.tmp := rfl
@[simp] theorem State.stage_crc (bytes : List Byte) : (s.stage bytes).crc = s.crc := rfl
@[simp] theorem State.stage_blk (bytes : List Byte) : (s.stage bytes).blk = s.blk := rfl
@[simp] theorem State.stage_keyB (bytes : List Byte) : (s.stage bytes).keyB = s.keyB := rfl
@[simp] theorem State.stage_key (bytes : List Byte) : (s.stage bytes).key = s.key := rfl
@[simp] theorem State.stage_sn (bytes : List Byte) : (s.stage bytes).sn = s.sn := rfl
@[simp] theorem State.stage_data (bytes : List Byte) : (s.stage bytes).data = s.data := rfl
@[simp] theorem State.stage_answers (bytes : List Byte) : (s.stage bytes).answers = s.answers := rfl
@[simp] theorem State.stage_inbox (bytes : List Byte) : (s.stage bytes).inbox = s.inbox := rfl
@[simp] theorem State.stage_resetLine (bytes : List Byte) : (s.stage bytes).resetLine = s.resetLine := rfl
@[simp] theorem State.stage_reply (bytes : List Byte) : (s.stage bytes).reply = s.reply := rfl
@[simp] theorem State.stage_events (bytes : List Byte) : (s.stage bytes).events = s.events := rfl
@[simp] theorem State.stage_mem (bytes : List Byte) : (s.stage bytes).mem = s.mem := rfl
@[simp] theorem State.stage_ghost (bytes : List Byte) : (s.stage bytes).ghost = s.ghost := rfl
@[simp] theorem State.stage_fresh (bytes : List Byte) : (s.stage bytes).fresh = s.fresh := rfl

/-! `State.appendCrc` -/
@[simp] theorem State.appendCrc_cfg : (s.appendCrc).cfg = s.cfg := rfl
@[simp] theorem State.appendCrc_seq : (s.appendCrc).seq = s.seq := rfl
@[simp] theorem State.appendCrc_busFault : (s.appendCrc).busFault = s.busFault := rfl
@[simp] theorem State.appendCrc_txBuf : (s.appendCrc).txBuf = putBytes s.txBuf s.txLen.toNat s.crc.toList := rfl
@[simp] theorem State.appendCrc_txLen : (s.appendCrc).txLen = s.txLen + 2 := rfl
@[simp] theorem State.appendCrc_rxBuf : (s.appendCrc).rxBuf = s.rxBuf := rfl
@[simp] theorem State.appendCrc_rxLen : (s.appendCrc).rxLen = s.rxLen := rfl
@[simp] theorem State.appendCrc_rxBits : (s.appendCrc).rxBits = s.rxBits := rfl
@[simp] theorem State.appendCrc_status : (s.appendCrc).status = s.status := rfl
@[simp] theorem State.appendCrc_cnt : (s.appendCrc).cnt = s.cnt := rfl
@[simp] theorem State.appendCrc_irqV : (s.appendCrc).irqV = s.irqV := rfl
@[simp] theorem State.appendCrc_errV : (s.appendCrc).errV = s.errV := rfl
@[simp] theorem State.appendCrc_tmp : (s.appendCrc).tmp = s.tmp := rfl
@[simp] theorem State.appendCrc_crc : (s.appendCrc).crc = s.crc := rfl
@[simp] theorem State.appendCrc_blk : (s.appendCrc).blk = s.blk := rfl
@[simp] theorem State.appendCrc_keyB : (s.appendCrc).keyB = s.keyB := rfl
@[simp] theorem State.appendCrc_key : (s.appendCrc).key = s.key := rfl
@[simp] theorem State.appendCrc_sn : (s.appendCrc).sn = s.sn := rfl
@[simp] theorem State.appendCrc_data : (s.appendCrc).data = s.data := rfl
@[simp] theorem State.appendCrc_answers : (s.appendCrc).answers = s.answers := rfl
@[simp] theorem State.appendCrc_inbox : (s.appendCrc).inbox = s.inbox := rfl
@[simp] theorem State.appendCrc_resetLine : (s.appendCrc).resetLine = s.resetLine := rfl
@[simp] theorem State.appendCrc_reply : (s.appendCrc).reply = s.reply := rfl
@[simp] theorem State.appendCrc_events : (s.appendCrc).events = s.events := rfl
@[simp] theorem State.appendCrc_mem : (s.appendCrc).mem = s.mem := rfl
@[simp] theorem State.appendCrc_ghost : (s.appendCrc).ghost = s.ghost := rfl
@[simp] theorem State.appendCrc_fresh : (s.appendCrc).fresh = s.fresh := rfl

/-! `State.noData` -/
@[simp] theorem State.noData_cfg (st : Status) : (s.noData st).cfg = s.cfg := rfl
@[simp] theorem State.noData_seq (st : Status) : (s.noData st).seq = s.seq := rfl
@[simp] theorem State.noData_busFault (st : Status) : (s.noData st).busFault = s.busFault := rfl
@[simp] theorem State.noData_txBuf (st : Status) : (s.noData st).txBuf = s.txBuf := rfl
@[simp] theorem State.noData_txLen (st : Status) : (s.noData st).txLen = s.txLen := rfl
@[simp] theorem State.noData_rxBuf (st : Status) : (s.noData st).rxBuf = s.rxBuf := rfl
@[simp] theorem State.noData_rxLen (st : Status) : (s.noData st).rxLen = 0 := rfl
@[simp] theorem State.noData_rxBits (st : Status) : (s.noData st).rxBits = 0 := rfl
@[simp] theorem State.noData_status (st : Status) : (s.noData st).status = st := rfl
@[simp] theorem State.noData_cnt (st : Status) : (s.noData st).cnt = s.cnt := rfl
@[simp] theorem State.noData_irqV (st : Status) : (s.noData st).irqV = s.irqV := rfl
@[simp] theorem State.noData_errV (st : Status) : (s.noData st).errV = s.errV := rfl
@[simp] theorem State.noData_tmp (st : Status) : (s.noData st).tmp = s.tmp := rfl
@[simp] theorem State.noData_crc (st : Status) : (s.noData st).crc = s.crc := rfl
@[simp] theorem State.noData_blk (st : Status) : (s.noData st).blk = s.blk := rfl
@[simp] theorem State.noData_keyB (st : Status) : (s.noData st).keyB = s.keyB := rfl
@[simp] theorem State.noData_key (st : Status) : (s.noData st).key = s.key := rfl
@[simp] theorem State.noData_sn (st : Status) : (s.noData st).sn = s.sn := rfl
@[simp] theorem State.noData_data (st : Status) : (s.noData st).data = s.data := rfl
@[simp] theorem State.noData_answers (st : Status) : (s.noData st).answers = s.answers := rfl
@[simp] theorem State.noData_inbox (st : Status) : (s.noData st).inbox = s.inbox := rfl
@[simp] theorem State.noData_resetLine (st : Status) : (s.noData st).resetLine = s.resetLine := rfl
@[simp] theorem State.noData_reply (st : Status) : (s.noData st).reply = s.reply := rfl
@[simp] theorem State.noData_events (st : Status) : (s.noData st).events = s.events := rfl
@[simp] theorem State.noData_mem (st : Status) : (s.noData st).mem = s.mem := rfl
@[simp] theorem State.noData_ghost (st : Status) : (s.noData st).ghost = s.ghost := rfl
@[simp] theorem State.noData_fresh (st : Status) : (s.noData st).fresh = s.fresh := rfl

/-! `State.finishUnit` -/
@[simp] theorem State.finishUnit_cfg : (s.finishUnit).cfg = s.cfg := rfl
@[simp] theorem State.finishUnit_seq : (s.finishUnit).seq = .idle := rfl
@[simp] theorem State.finishUnit_busFault : (s.finishUnit).busFault = s.busFault := rfl
@[simp] theorem State.finishUnit_txBuf : (s.finishUnit).txBuf = s.txBuf := rfl
@[simp] theorem State.finishUnit_txLen : (s.finishUnit).txLen = s.txLen := rfl
@[simp] theorem State.finishUnit_rxBuf : (s.finishUnit).rxBuf = Config.freeBytes 64 s.fresh := rfl
@[simp] theorem State.finishUnit_rxLen : (s.finishUnit).rxLen = BitVec.ofNat 7 (Config.freeLen s.fresh).val := rfl
@[simp] theorem State.finishUnit_rxBits : (s.finishUnit).rxBits = BitVec.ofNat 10 (Config.freeBits s.fresh).val := rfl
@[simp] theorem State.finishUnit_status : (s.finishUnit).status = Config.freeStatus s.fresh := rfl
@[simp] theorem State.finishUnit_cnt : (s.finishUnit).cnt = s.cnt := rfl
@[simp] theorem State.finishUnit_irqV : (s.finishUnit).irqV = s.irqV := rfl
@[simp] theorem State.finishUnit_errV : (s.finishUnit).errV = s.errV := rfl
@[simp] theorem State.finishUnit_tmp : (s.finishUnit).tmp = s.tmp := rfl
@[simp] theorem State.finishUnit_crc : (s.finishUnit).crc = s.crc := rfl
@[simp] theorem State.finishUnit_blk : (s.finishUnit).blk = s.blk := rfl
@[simp] theorem State.finishUnit_keyB : (s.finishUnit).keyB = s.keyB := rfl
@[simp] theorem State.finishUnit_key : (s.finishUnit).key = s.key := rfl
@[simp] theorem State.finishUnit_sn : (s.finishUnit).sn = s.sn := rfl
@[simp] theorem State.finishUnit_data : (s.finishUnit).data = s.data := rfl
@[simp] theorem State.finishUnit_answers : (s.finishUnit).answers = s.answers := rfl
@[simp] theorem State.finishUnit_inbox : (s.finishUnit).inbox = s.inbox := rfl
@[simp] theorem State.finishUnit_resetLine : (s.finishUnit).resetLine = s.resetLine := rfl
@[simp] theorem State.finishUnit_reply : (s.finishUnit).reply = .completed := rfl
@[simp] theorem State.finishUnit_events : (s.finishUnit).events = s.events := rfl
@[simp] theorem State.finishUnit_mem : (s.finishUnit).mem = s.mem := rfl
@[simp] theorem State.finishUnit_ghost : (s.finishUnit).ghost = .ready false := rfl
@[simp] theorem State.finishUnit_fresh : (s.finishUnit).fresh = s.fresh + 1 := rfl

/-! `State.finishFailed` -/
@[simp] theorem State.finishFailed_cfg (st : Status) (bits : Option (BitVec 10)) (g : Ghost) : (s.finishFailed st bits g).cfg = s.cfg := rfl
@[simp] theorem State.finishFailed_seq (st : Status) (bits : Option (BitVec 10)) (g : Ghost) : (s.finishFailed st bits g).seq = .idle := rfl
@[simp] theorem State.finishFailed_busFault (st : Status) (bits : Option (BitVec 10)) (g : Ghost) : (s.finishFailed st bits g).busFault = s.busFault := rfl
@[simp] theorem State.finishFailed_txBuf (st : Status) (bits : Option (BitVec 10)) (g : Ghost) : (s.finishFailed st bits g).txBuf = s.txBuf := rfl
@[simp] theorem State.finishFailed_txLen (st : Status) (bits : Option (BitVec 10)) (g : Ghost) : (s.finishFailed st bits g).txLen = s.txLen := rfl
@[simp] theorem State.finishFailed_rxBuf (st : Status) (bits : Option (BitVec 10)) (g : Ghost) : (s.finishFailed st bits g).rxBuf = Config.freeBytes 64 s.fresh := rfl
@[simp] theorem State.finishFailed_rxLen (st : Status) (bits : Option (BitVec 10)) (g : Ghost) : (s.finishFailed st bits g).rxLen = 0 := rfl
@[simp] theorem State.finishFailed_rxBits (st : Status) (bits : Option (BitVec 10)) (g : Ghost) : (s.finishFailed st bits g).rxBits = 0 := rfl
@[simp] theorem State.finishFailed_status (st : Status) (bits : Option (BitVec 10)) (g : Ghost) : (s.finishFailed st bits g).status = st := rfl
@[simp] theorem State.finishFailed_cnt (st : Status) (bits : Option (BitVec 10)) (g : Ghost) : (s.finishFailed st bits g).cnt = s.cnt := rfl
@[simp] theorem State.finishFailed_irqV (st : Status) (bits : Option (BitVec 10)) (g : Ghost) : (s.finishFailed st bits g).irqV = s.irqV := rfl
@[simp] theorem State.finishFailed_errV (st : Status) (bits : Option (BitVec 10)) (g : Ghost) : (s.finishFailed st bits g).errV = s.errV := rfl
@[simp] theorem State.finishFailed_tmp (st : Status) (bits : Option (BitVec 10)) (g : Ghost) : (s.finishFailed st bits g).tmp = s.tmp := rfl
@[simp] theorem State.finishFailed_crc (st : Status) (bits : Option (BitVec 10)) (g : Ghost) : (s.finishFailed st bits g).crc = s.crc := rfl
@[simp] theorem State.finishFailed_blk (st : Status) (bits : Option (BitVec 10)) (g : Ghost) : (s.finishFailed st bits g).blk = s.blk := rfl
@[simp] theorem State.finishFailed_keyB (st : Status) (bits : Option (BitVec 10)) (g : Ghost) : (s.finishFailed st bits g).keyB = s.keyB := rfl
@[simp] theorem State.finishFailed_key (st : Status) (bits : Option (BitVec 10)) (g : Ghost) : (s.finishFailed st bits g).key = s.key := rfl
@[simp] theorem State.finishFailed_sn (st : Status) (bits : Option (BitVec 10)) (g : Ghost) : (s.finishFailed st bits g).sn = s.sn := rfl
@[simp] theorem State.finishFailed_data (st : Status) (bits : Option (BitVec 10)) (g : Ghost) : (s.finishFailed st bits g).data = s.data := rfl
@[simp] theorem State.finishFailed_answers (st : Status) (bits : Option (BitVec 10)) (g : Ghost) : (s.finishFailed st bits g).answers = s.answers := rfl
@[simp] theorem State.finishFailed_inbox (st : Status) (bits : Option (BitVec 10)) (g : Ghost) : (s.finishFailed st bits g).inbox = s.inbox := rfl
@[simp] theorem State.finishFailed_resetLine (st : Status) (bits : Option (BitVec 10)) (g : Ghost) : (s.finishFailed st bits g).resetLine = s.resetLine := rfl
@[simp] theorem State.finishFailed_reply (st : Status) (bits : Option (BitVec 10)) (g : Ghost) : (s.finishFailed st bits g).reply = .result st [] bits := rfl
@[simp] theorem State.finishFailed_events (st : Status) (bits : Option (BitVec 10)) (g : Ghost) : (s.finishFailed st bits g).events = s.events := rfl
@[simp] theorem State.finishFailed_mem (st : Status) (bits : Option (BitVec 10)) (g : Ghost) : (s.finishFailed st bits g).mem = s.mem := rfl
@[simp] theorem State.finishFailed_ghost (st : Status) (bits : Option (BitVec 10)) (g : Ghost) : (s.finishFailed st bits g).ghost = g := rfl
@[simp] theorem State.finishFailed_fresh (st : Status) (bits : Option (BitVec 10)) (g : Ghost) : (s.finishFailed st bits g).fresh = s.fresh + 1 := rfl

/-! `State.finishOk` -/
@[simp] theorem State.finishOk_cfg (data : List Byte) (bits : Option (BitVec 10)) (g : Ghost) : (s.finishOk data bits g).cfg = s.cfg := rfl
@[simp] theorem State.finishOk_seq (data : List Byte) (bits : Option (BitVec 10)) (g : Ghost) : (s.finishOk data bits g).seq = .idle := rfl
@[simp] theorem State.finishOk_busFault (data : List Byte) (bits : Option (BitVec 10)) (g : Ghost) : (s.finishOk data bits g).busFault = s.busFault := rfl
@[simp] theorem State.finishOk_txBuf (data : List Byte) (bits : Option (BitVec 10)) (g : Ghost) : (s.finishOk data bits g).txBuf = s.txBuf := rfl
@[simp] theorem State.finishOk_txLen (data : List Byte) (bits : Option (BitVec 10)) (g : Ghost) : (s.finishOk data bits g).txLen = s.txLen := rfl
@[simp] theorem State.finishOk_rxBuf (data : List Byte) (bits : Option (BitVec 10)) (g : Ghost) : (s.finishOk data bits g).rxBuf = s.rxBuf := rfl
@[simp] theorem State.finishOk_rxLen (data : List Byte) (bits : Option (BitVec 10)) (g : Ghost) : (s.finishOk data bits g).rxLen = s.rxLen := rfl
@[simp] theorem State.finishOk_rxBits (data : List Byte) (bits : Option (BitVec 10)) (g : Ghost) : (s.finishOk data bits g).rxBits = s.rxBits := rfl
@[simp] theorem State.finishOk_status (data : List Byte) (bits : Option (BitVec 10)) (g : Ghost) : (s.finishOk data bits g).status = .ok := rfl
@[simp] theorem State.finishOk_cnt (data : List Byte) (bits : Option (BitVec 10)) (g : Ghost) : (s.finishOk data bits g).cnt = s.cnt := rfl
@[simp] theorem State.finishOk_irqV (data : List Byte) (bits : Option (BitVec 10)) (g : Ghost) : (s.finishOk data bits g).irqV = s.irqV := rfl
@[simp] theorem State.finishOk_errV (data : List Byte) (bits : Option (BitVec 10)) (g : Ghost) : (s.finishOk data bits g).errV = s.errV := rfl
@[simp] theorem State.finishOk_tmp (data : List Byte) (bits : Option (BitVec 10)) (g : Ghost) : (s.finishOk data bits g).tmp = s.tmp := rfl
@[simp] theorem State.finishOk_crc (data : List Byte) (bits : Option (BitVec 10)) (g : Ghost) : (s.finishOk data bits g).crc = s.crc := rfl
@[simp] theorem State.finishOk_blk (data : List Byte) (bits : Option (BitVec 10)) (g : Ghost) : (s.finishOk data bits g).blk = s.blk := rfl
@[simp] theorem State.finishOk_keyB (data : List Byte) (bits : Option (BitVec 10)) (g : Ghost) : (s.finishOk data bits g).keyB = s.keyB := rfl
@[simp] theorem State.finishOk_key (data : List Byte) (bits : Option (BitVec 10)) (g : Ghost) : (s.finishOk data bits g).key = s.key := rfl
@[simp] theorem State.finishOk_sn (data : List Byte) (bits : Option (BitVec 10)) (g : Ghost) : (s.finishOk data bits g).sn = s.sn := rfl
@[simp] theorem State.finishOk_data (data : List Byte) (bits : Option (BitVec 10)) (g : Ghost) : (s.finishOk data bits g).data = s.data := rfl
@[simp] theorem State.finishOk_answers (data : List Byte) (bits : Option (BitVec 10)) (g : Ghost) : (s.finishOk data bits g).answers = s.answers := rfl
@[simp] theorem State.finishOk_inbox (data : List Byte) (bits : Option (BitVec 10)) (g : Ghost) : (s.finishOk data bits g).inbox = s.inbox := rfl
@[simp] theorem State.finishOk_resetLine (data : List Byte) (bits : Option (BitVec 10)) (g : Ghost) : (s.finishOk data bits g).resetLine = s.resetLine := rfl
@[simp] theorem State.finishOk_reply (data : List Byte) (bits : Option (BitVec 10)) (g : Ghost) : (s.finishOk data bits g).reply = .result .ok data bits := rfl
@[simp] theorem State.finishOk_events (data : List Byte) (bits : Option (BitVec 10)) (g : Ghost) : (s.finishOk data bits g).events = s.events := rfl
@[simp] theorem State.finishOk_mem (data : List Byte) (bits : Option (BitVec 10)) (g : Ghost) : (s.finishOk data bits g).mem = s.mem := rfl
@[simp] theorem State.finishOk_ghost (data : List Byte) (bits : Option (BitVec 10)) (g : Ghost) : (s.finishOk data bits g).ghost = g := rfl
@[simp] theorem State.finishOk_fresh (data : List Byte) (bits : Option (BitVec 10)) (g : Ghost) : (s.finishOk data bits g).fresh = s.fresh := rfl

/-! `State.finishLone` -/
@[simp] theorem State.finishLone_cfg (r : Reply) : (s.finishLone r).cfg = s.cfg := rfl
@[simp] theorem State.finishLone_seq (r : Reply) : (s.finishLone r).seq = .idle := rfl
@[simp] theorem State.finishLone_busFault (r : Reply) : (s.finishLone r).busFault = s.busFault := rfl
@[simp] theorem State.finishLone_txBuf (r : Reply) : (s.finishLone r).txBuf = s.txBuf := rfl
@[simp] theorem State.finishLone_txLen (r : Reply) : (s.finishLone r).txLen = s.txLen := rfl
@[simp] theorem State.finishLone_rxBuf (r : Reply) : (s.finishLone r).rxBuf = s.rxBuf := rfl
@[simp] theorem State.finishLone_rxLen (r : Reply) : (s.finishLone r).rxLen = s.rxLen := rfl
@[simp] theorem State.finishLone_rxBits (r : Reply) : (s.finishLone r).rxBits = s.rxBits := rfl
@[simp] theorem State.finishLone_status (r : Reply) : (s.finishLone r).status = s.status := rfl
@[simp] theorem State.finishLone_cnt (r : Reply) : (s.finishLone r).cnt = s.cnt := rfl
@[simp] theorem State.finishLone_irqV (r : Reply) : (s.finishLone r).irqV = s.irqV := rfl
@[simp] theorem State.finishLone_errV (r : Reply) : (s.finishLone r).errV = s.errV := rfl
@[simp] theorem State.finishLone_tmp (r : Reply) : (s.finishLone r).tmp = s.tmp := rfl
@[simp] theorem State.finishLone_crc (r : Reply) : (s.finishLone r).crc = s.crc := rfl
@[simp] theorem State.finishLone_blk (r : Reply) : (s.finishLone r).blk = s.blk := rfl
@[simp] theorem State.finishLone_keyB (r : Reply) : (s.finishLone r).keyB = s.keyB := rfl
@[simp] theorem State.finishLone_key (r : Reply) : (s.finishLone r).key = s.key := rfl
@[simp] theorem State.finishLone_sn (r : Reply) : (s.finishLone r).sn = s.sn := rfl
@[simp] theorem State.finishLone_data (r : Reply) : (s.finishLone r).data = s.data := rfl
@[simp] theorem State.finishLone_answers (r : Reply) : (s.finishLone r).answers = s.answers := rfl
@[simp] theorem State.finishLone_inbox (r : Reply) : (s.finishLone r).inbox = s.inbox := rfl
@[simp] theorem State.finishLone_resetLine (r : Reply) : (s.finishLone r).resetLine = s.resetLine := rfl
@[simp] theorem State.finishLone_reply (r : Reply) : (s.finishLone r).reply = r := rfl
@[simp] theorem State.finishLone_events (r : Reply) : (s.finishLone r).events = s.events := rfl
@[simp] theorem State.finishLone_mem (r : Reply) : (s.finishLone r).mem = s.mem := rfl
@[simp] theorem State.finishLone_ghost (r : Reply) : (s.finishLone r).ghost = s.ghost := rfl
@[simp] theorem State.finishLone_fresh (r : Reply) : (s.finishLone r).fresh = s.fresh := rfl

/-! `State.deliver` -/
@[simp] theorem State.deliver_cfg (as : List Answer) : (s.deliver as).cfg = s.cfg := rfl
@[simp] theorem State.deliver_seq (as : List Answer) : (s.deliver as).seq = s.seq := rfl
@[simp] theorem State.deliver_busFault (as : List Answer) : (s.deliver as).busFault = s.busFault := rfl
@[simp] theorem State.deliver_txBuf (as : List Answer) : (s.deliver as).txBuf = s.txBuf := rfl
@[simp] theorem State.deliver_txLen (as : List Answer) : (s.deliver as).txLen = s.txLen := rfl
@[simp] theorem State.deliver_rxBuf (as : List Answer) : (s.deliver as).rxBuf = s.rxBuf := rfl
@[simp] theorem State.deliver_rxLen (as : List Answer) : (s.deliver as).rxLen = s.rxLen := rfl
@[simp] theorem State.deliver_rxBits (as : List Answer) : (s.deliver as).rxBits = s.rxBits := rfl
@[simp] theorem State.deliver_status (as : List Answer) : (s.deliver as).status = s.status := rfl
@[simp] theorem State.deliver_cnt (as : List Answer) : (s.deliver as).cnt = s.cnt := rfl
@[simp] theorem State.deliver_irqV (as : List Answer) : (s.deliver as).irqV = s.irqV := rfl
@[simp] theorem State.deliver_errV (as : List Answer) : (s.deliver as).errV = s.errV := rfl
@[simp] theorem State.deliver_tmp (as : List Answer) : (s.deliver as).tmp = s.tmp := rfl
@[simp] theorem State.deliver_crc (as : List Answer) : (s.deliver as).crc = s.crc := rfl
@[simp] theorem State.deliver_blk (as : List Answer) : (s.deliver as).blk = s.blk := rfl
@[simp] theorem State.deliver_keyB (as : List Answer) : (s.deliver as).keyB = s.keyB := rfl
@[simp] theorem State.deliver_key (as : List Answer) : (s.deliver as).key = s.key := rfl
@[simp] theorem State.deliver_sn (as : List Answer) : (s.deliver as).sn = s.sn := rfl
@[simp] theorem State.deliver_data (as : List Answer) : (s.deliver as).data = s.data := rfl
@[simp] theorem State.deliver_answers (as : List Answer) : (s.deliver as).answers = s.answers ++ as := rfl
@[simp] theorem State.deliver_inbox (as : List Answer) : (s.deliver as).inbox = s.inbox := rfl
@[simp] theorem State.deliver_resetLine (as : List Answer) : (s.deliver as).resetLine = s.resetLine := rfl
@[simp] theorem State.deliver_reply (as : List Answer) : (s.deliver as).reply = s.reply := rfl
@[simp] theorem State.deliver_events (as : List Answer) : (s.deliver as).events = s.events := rfl
@[simp] theorem State.deliver_mem (as : List Answer) : (s.deliver as).mem = s.mem := rfl
@[simp] theorem State.deliver_ghost (as : List Answer) : (s.deliver as).ghost = s.ghost := rfl
@[simp] theorem State.deliver_fresh (as : List Answer) : (s.deliver as).fresh = s.fresh := rfl

/-! `State.offer` -/
@[simp] theorem State.offer_cfg (p : Port) (bytes : List Byte) : (s.offer p bytes).cfg = s.cfg := rfl
@[simp] theorem State.offer_seq (p : Port) (bytes : List Byte) : (s.offer p bytes).seq = s.seq := rfl
@[simp] theorem State.offer_busFault (p : Port) (bytes : List Byte) : (s.offer p bytes).busFault = s.busFault := rfl
@[simp] theorem State.offer_txBuf (p : Port) (bytes : List Byte) : (s.offer p bytes).txBuf = s.txBuf := rfl
@[simp] theorem State.offer_txLen (p : Port) (bytes : List Byte) : (s.offer p bytes).txLen = s.txLen := rfl
@[simp] theorem State.offer_rxBuf (p : Port) (bytes : List Byte) : (s.offer p bytes).rxBuf = s.rxBuf := rfl
@[simp] theorem State.offer_rxLen (p : Port) (bytes : List Byte) : (s.offer p bytes).rxLen = s.rxLen := rfl
@[simp] theorem State.offer_rxBits (p : Port) (bytes : List Byte) : (s.offer p bytes).rxBits = s.rxBits := rfl
@[simp] theorem State.offer_status (p : Port) (bytes : List Byte) : (s.offer p bytes).status = s.status := rfl
@[simp] theorem State.offer_cnt (p : Port) (bytes : List Byte) : (s.offer p bytes).cnt = s.cnt := rfl
@[simp] theorem State.offer_irqV (p : Port) (bytes : List Byte) : (s.offer p bytes).irqV = s.irqV := rfl
@[simp] theorem State.offer_errV (p : Port) (bytes : List Byte) : (s.offer p bytes).errV = s.errV := rfl
@[simp] theorem State.offer_tmp (p : Port) (bytes : List Byte) : (s.offer p bytes).tmp = s.tmp := rfl
@[simp] theorem State.offer_crc (p : Port) (bytes : List Byte) : (s.offer p bytes).crc = s.crc := rfl
@[simp] theorem State.offer_blk (p : Port) (bytes : List Byte) : (s.offer p bytes).blk = s.blk := rfl
@[simp] theorem State.offer_keyB (p : Port) (bytes : List Byte) : (s.offer p bytes).keyB = s.keyB := rfl
@[simp] theorem State.offer_key (p : Port) (bytes : List Byte) : (s.offer p bytes).key = s.key := rfl
@[simp] theorem State.offer_sn (p : Port) (bytes : List Byte) : (s.offer p bytes).sn = s.sn := rfl
@[simp] theorem State.offer_data (p : Port) (bytes : List Byte) : (s.offer p bytes).data = s.data := rfl
@[simp] theorem State.offer_answers (p : Port) (bytes : List Byte) : (s.offer p bytes).answers = s.answers := rfl
@[simp] theorem State.offer_inbox (p : Port) (bytes : List Byte) : (s.offer p bytes).inbox = s.inbox ++ [⟨p, bytes⟩] := rfl
@[simp] theorem State.offer_resetLine (p : Port) (bytes : List Byte) : (s.offer p bytes).resetLine = s.resetLine := rfl
@[simp] theorem State.offer_reply (p : Port) (bytes : List Byte) : (s.offer p bytes).reply = s.reply := rfl
@[simp] theorem State.offer_events (p : Port) (bytes : List Byte) : (s.offer p bytes).events = s.events := rfl
@[simp] theorem State.offer_mem (p : Port) (bytes : List Byte) : (s.offer p bytes).mem = s.mem := rfl
@[simp] theorem State.offer_ghost (p : Port) (bytes : List Byte) : (s.offer p bytes).ghost = s.ghost := rfl
@[simp] theorem State.offer_fresh (p : Port) (bytes : List Byte) : (s.offer p bytes).fresh = s.fresh := rfl

/-! `State.askReset` -/
@[simp] theorem State.askReset_cfg : (s.askReset).cfg = s.cfg := rfl
@[simp] theorem State.askReset_seq : (s.askReset).seq = s.seq := rfl
@[simp] theorem State.askReset_busFault : (s.askReset).busFault = s.busFault := rfl
@[simp] theorem State.askReset_txBuf : (s.askReset).txBuf = s.txBuf := rfl
@[simp] theorem State.askReset_txLen : (s.askReset).txLen = s.txLen := rfl
@[simp] theorem State.askReset_rxBuf : (s.askReset).rxBuf = s.rxBuf := rfl
@[simp] theorem State.askReset_rxLen : (s.askReset).rxLen = s.rxLen := rfl
@[simp] theorem State.askReset_rxBits : (s.askReset).rxBits = s.rxBits := rfl
@[simp] theorem State.askReset_status : (s.askReset).status = s.status := rfl
@[simp] theorem State.askReset_cnt : (s.askReset).cnt = s.cnt := rfl
@[simp] theorem State.askReset_irqV : (s.askReset).irqV = s.irqV := rfl
@[simp] theorem State.askReset_errV : (s.askReset).errV = s.errV := rfl
@[simp] theorem State.askReset_tmp : (s.askReset).tmp = s.tmp := rfl
@[simp] theorem State.askReset_crc : (s.askReset).crc = s.crc := rfl
@[simp] theorem State.askReset_blk : (s.askReset).blk = s.blk := rfl
@[simp] theorem State.askReset_keyB : (s.askReset).keyB = s.keyB := rfl
@[simp] theorem State.askReset_key : (s.askReset).key = s.key := rfl
@[simp] theorem State.askReset_sn : (s.askReset).sn = s.sn := rfl
@[simp] theorem State.askReset_data : (s.askReset).data = s.data := rfl
@[simp] theorem State.askReset_answers : (s.askReset).answers = s.answers := rfl
@[simp] theorem State.askReset_inbox : (s.askReset).inbox = s.inbox := rfl
@[simp] theorem State.askReset_resetLine : (s.askReset).resetLine = true := rfl
@[simp] theorem State.askReset_reply : (s.askReset).reply = s.reply := rfl
@[simp] theorem State.askReset_events : (s.askReset).events = s.events := rfl
@[simp] theorem State.askReset_mem : (s.askReset).mem = s.mem := rfl
@[simp] theorem State.askReset_ghost : (s.askReset).ghost = s.ghost := rfl
@[simp] theorem State.askReset_fresh : (s.askReset).fresh = s.fresh := rfl

/-! `State.taken` -/
@[simp] theorem State.taken_cfg : (s.taken).cfg = s.cfg := rfl
@[simp] theorem State.taken_seq : (s.taken).seq = s.seq := rfl
@[simp] theorem State.taken_busFault : (s.taken).busFault = s.busFault := rfl
@[simp] theorem State.taken_txBuf : (s.taken).txBuf = s.txBuf := rfl
@[simp] theorem State.taken_txLen : (s.taken).txLen = s.txLen := rfl
@[simp] theorem State.taken_rxBuf : (s.taken).rxBuf = s.rxBuf := rfl
@[simp] theorem State.taken_rxLen : (s.taken).rxLen = s.rxLen := rfl
@[simp] theorem State.taken_rxBits : (s.taken).rxBits = s.rxBits := rfl
@[simp] theorem State.taken_status : (s.taken).status = s.status := rfl
@[simp] theorem State.taken_cnt : (s.taken).cnt = s.cnt := rfl
@[simp] theorem State.taken_irqV : (s.taken).irqV = s.irqV := rfl
@[simp] theorem State.taken_errV : (s.taken).errV = s.errV := rfl
@[simp] theorem State.taken_tmp : (s.taken).tmp = s.tmp := rfl
@[simp] theorem State.taken_crc : (s.taken).crc = s.crc := rfl
@[simp] theorem State.taken_blk : (s.taken).blk = s.blk := rfl
@[simp] theorem State.taken_keyB : (s.taken).keyB = s.keyB := rfl
@[simp] theorem State.taken_key : (s.taken).key = s.key := rfl
@[simp] theorem State.taken_sn : (s.taken).sn = s.sn := rfl
@[simp] theorem State.taken_data : (s.taken).data = s.data := rfl
@[simp] theorem State.taken_answers : (s.taken).answers = s.answers := rfl
@[simp] theorem State.taken_inbox : (s.taken).inbox = s.inbox.tail := rfl
@[simp] theorem State.taken_resetLine : (s.taken).resetLine = s.resetLine := rfl
@[simp] theorem State.taken_reply : (s.taken).reply = s.reply := rfl
@[simp] theorem State.taken_events : (s.taken).events = s.events := rfl
@[simp] theorem State.taken_mem : (s.taken).mem = s.mem := rfl
@[simp] theorem State.taken_ghost : (s.taken).ghost = s.ghost := rfl
@[simp] theorem State.taken_fresh : (s.taken).fresh = s.fresh := rfl

/-! `State.unobserved` -/
@[simp] theorem State.unobserved_cfg : (s.unobserved).cfg = s.cfg := rfl
@[simp] theorem State.unobserved_seq : (s.unobserved).seq = s.seq := rfl
@[simp] theorem State.unobserved_busFault : (s.unobserved).busFault = s.busFault := rfl
@[simp] theorem State.unobserved_txBuf : (s.unobserved).txBuf = s.txBuf := rfl
@[simp] theorem State.unobserved_txLen : (s.unobserved).txLen = s.txLen := rfl
@[simp] theorem State.unobserved_rxBuf : (s.unobserved).rxBuf = s.rxBuf := rfl
@[simp] theorem State.unobserved_rxLen : (s.unobserved).rxLen = s.rxLen := rfl
@[simp] theorem State.unobserved_rxBits : (s.unobserved).rxBits = s.rxBits := rfl
@[simp] theorem State.unobserved_status : (s.unobserved).status = s.status := rfl
@[simp] theorem State.unobserved_cnt : (s.unobserved).cnt = s.cnt := rfl
@[simp] theorem State.unobserved_irqV : (s.unobserved).irqV = s.irqV := rfl
@[simp] theorem State.unobserved_errV : (s.unobserved).errV = s.errV := rfl
@[simp] theorem State.unobserved_tmp : (s.unobserved).tmp = s.tmp := rfl
@[simp] theorem State.unobserved_crc : (s.unobserved).crc = s.crc := rfl
@[simp] theorem State.unobserved_blk : (s.unobserved).blk = s.blk := rfl
@[simp] theorem State.unobserved_keyB : (s.unobserved).keyB = s.keyB := rfl
@[simp] theorem State.unobserved_key : (s.unobserved).key = s.key := rfl
@[simp] theorem State.unobserved_sn : (s.unobserved).sn = s.sn := rfl
@[simp] theorem State.unobserved_data : (s.unobserved).data = s.data := rfl
@[simp] theorem State.unobserved_answers : (s.unobserved).answers = s.answers := rfl
@[simp] theorem State.unobserved_inbox : (s.unobserved).inbox = s.inbox := rfl
@[simp] theorem State.unobserved_resetLine : (s.unobserved).resetLine = s.resetLine := rfl
@[simp] theorem State.unobserved_reply : (s.unobserved).reply = .nothing := rfl
@[simp] theorem State.unobserved_events : (s.unobserved).events = [] := rfl
@[simp] theorem State.unobserved_mem : (s.unobserved).mem = [] := rfl
@[simp] theorem State.unobserved_ghost : (s.unobserved).ghost = .uninit := rfl
@[simp] theorem State.unobserved_fresh : (s.unobserved).fresh = s.fresh := rfl

end Sys2Proof.Machine
end

