-- ==== Sys2Proof/Laws/Buffers.lean ====
section
/-! SUPPORT. What placing bytes in a buffer does to each byte, and what reading the start of a buffer gives. -/

namespace Sys2Proof.Machine

/-- Byte `i` of a buffer after one byte was set. -/
theorem byteAt_set {n : Nat} (b : Bytes n) (i j : Nat) (v : Byte) :
    byteAt (b.setIfInBounds i v) j = if i = j ∧ j < n then v else byteAt b j := by
  unfold byteAt
  rw [Vector.getElem?_setIfInBounds]
  by_cases h : i = j
  · subst h
    by_cases hn : i < n
    · simp [hn]
    · simp [hn]
  · simp [h]

/-- Byte `j` of a buffer after bytes were placed from `i` on. -/
theorem byteAt_putBytes {n : Nat} (l : List Byte) (b : Bytes n) (i j : Nat) (h : i + l.length ≤ n) :
    byteAt (putBytes b i l) j = if i ≤ j ∧ j < i + l.length then l.getD (j - i) 0 else byteAt b j := by
  induction l generalizing b i with
  | nil =>
    simp only [putBytes, List.length_nil]
    rw [if_neg (by omega)]
  | cons x xs ih =>
    simp only [List.length_cons] at h
    rw [putBytes, ih _ _ (by omega), byteAt_set]
    simp only [List.length_cons]
    by_cases h1 : i + 1 ≤ j ∧ j < i + 1 + xs.length
    · rw [if_pos h1, if_pos (by omega)]
      obtain ⟨m, rfl⟩ : ∃ m, j = i + 1 + m := ⟨j - (i + 1), by omega⟩
      rw [show i + 1 + m - (i + 1) = m by omega, show i + 1 + m - i = m + 1 by omega, List.getD_cons_succ]
    · rw [if_neg h1]
      by_cases h2 : i = j
      · subst h2
        rw [if_pos ⟨rfl, by omega⟩, if_pos (by omega)]
        simp
      · rw [if_neg (by simp [h2]), if_neg (by omega)]

/-- The start of a buffer, byte by byte. -/
theorem firstBytes_eq {n : Nat} (b : Bytes n) (len : Nat) (h : len ≤ n) :
    firstBytes b len = (List.range len).map (byteAt b) := by
  apply List.ext_getElem
  · simp [firstBytes, h]
  · intro i h1 h2
    have hi : i < len := by simpa using h2
    simp [firstBytes, byteAt, show i < n by omega]

/-- How many bytes the start of a buffer has. -/
@[simp] theorem length_firstBytes {n : Nat} (b : Bytes n) (len : Nat) : (firstBytes b len).length = min len n := by
  simp [firstBytes]

/-- The start of a buffer after bytes were placed at its start. -/
theorem firstBytes_putBytes {n : Nat} (b : Bytes n) (l : List Byte) (h : l.length ≤ n) :
    firstBytes (putBytes b 0 l) l.length = l := by
  rw [firstBytes_eq _ _ h]
  apply List.ext_getElem
  · simp
  · intro i h1 h2
    simp only [List.getElem_map, List.getElem_range]
    rw [byteAt_putBytes _ _ _ _ (by omega), if_pos (by omega)]
    simp [List.getD_eq_getElem?_getD, h2]

/-- The start of a buffer after bytes were placed behind it. -/
theorem firstBytes_append {n : Nat} (b : Bytes n) (len : Nat) (l : List Byte) (h : len + l.length ≤ n) :
    firstBytes (putBytes b len l) (len + l.length) = firstBytes b len ++ l := by
  rw [firstBytes_eq _ _ h, firstBytes_eq _ _ (show len ≤ n by omega), List.range_add, List.map_append]
  congr 1
  · refine List.map_congr_left fun j hj => ?_
    rw [byteAt_putBytes _ _ _ _ h, if_neg (by have := List.mem_range.1 hj; omega)]
  · apply List.ext_getElem
    · simp
    · intro i h1 h2
      simp only [List.getElem_map, List.getElem_range]
      rw [byteAt_putBytes _ _ _ _ h, if_pos (by omega)]
      simp [List.getD_eq_getElem?_getD, h2]

/-- The bytes of a buffer as a list, taken back into a buffer. -/
@[simp] theorem toBytes_toList {n : Nat} (b : Bytes n) : toBytes n b.toList = b := by
  apply Vector.ext
  intro i hi
  simp [toBytes, List.getD_eq_getElem?_getD]

/-- The bytes of a buffer at the start of a longer list, taken back into a buffer. -/
@[simp] theorem toBytes_append {n : Nat} (b : Bytes n) (l : List Byte) : toBytes n (b.toList ++ l) = b := by
  apply Vector.ext
  intro i hi
  simp [toBytes, List.getD_eq_getElem?_getD, List.getElem?_append_left]

/-- The clamped level lies between 1 and 64 (R233). -/
theorem clampLevel_bounds (lvl : Byte) : 1 ≤ clampLevel lvl ∧ clampLevel lvl ≤ 64 := by
  simp only [clampLevel, Config.fifoSize]
  omega

end Sys2Proof.Machine
end

