-- ==== Sys2Proof/Laws/Memory.lean ====
section
/-! SUPPORT. The register space as written: reading after writing and after forgetting, and that every operation keeps the
canonical form. -/

namespace Sys2Proof.Machine

/-- What was written is read back. -/
@[simp] theorem Memory.read_write_same (m : Memory) (a : Nat) (v : Byte) : (m.write a v).read a = some v := by
  induction m with
  | nil => simp [Memory.write, Memory.read]
  | cons c m ih =>
    simp only [Memory.write]
    split
    · simp [Memory.read]
    · split
      · simp [Memory.read]
      · rename_i h
        simp [Memory.read, Ne.symm h, ih]

/-- A write leaves every other address as it was. -/
theorem Memory.read_write_other (m : Memory) {a b : Nat} (v : Byte) (h : b ≠ a) :
    (m.write a v).read b = m.read b := by
  induction m with
  | nil => simp [Memory.write, Memory.read, Ne.symm h]
  | cons c m ih =>
    simp only [Memory.write]
    split
    · simp [Memory.read, Ne.symm h]
    · split
      · rename_i h2
        simp [Memory.read, Ne.symm h, ← h2]
      · simp only [Memory.read, ih]

/-- Nothing is known of a forgotten address. -/
@[simp] theorem Memory.read_forget_same (m : Memory) (a : Nat) : (m.forget a).read a = none := by
  induction m with
  | nil => rfl
  | cons c m ih =>
    simp only [Memory.forget, List.filter_cons] at ih ⊢
    by_cases h : c.1 = a
    · simp [h, ih]
    · simp [h, Memory.read, ih]

/-- Forgetting leaves every other address as it was. -/
theorem Memory.read_forget_other (m : Memory) {a b : Nat} (h : b ≠ a) : (m.forget a).read b = m.read b := by
  induction m with
  | nil => rfl
  | cons c m ih =>
    simp only [Memory.forget, List.filter_cons] at ih ⊢
    by_cases h1 : c.1 = a
    · simp [h1, ih, Memory.read, Ne.symm h]
    · simp [h1, Memory.read, ih]

/-- The addresses of a memory after a write: the one written, and those of before. -/
theorem Memory.mem_write {m : Memory} {a : Nat} {v : Byte} {c : Host.Cell} (h : c ∈ m.write a v) :
    c = (a, v) ∨ c ∈ m := by
  induction m with
  | nil => simpa [Memory.write] using h
  | cons d m ih =>
    simp only [Memory.write] at h
    split at h
    · simpa using h
    · split at h
      · rcases List.mem_cons.1 h with h | h
        · exact .inl h
        · exact .inr (List.mem_cons_of_mem _ h)
      · rcases List.mem_cons.1 h with h | h
        · exact .inr (h ▸ List.mem_cons_self)
        · exact (ih h).imp_right (List.mem_cons_of_mem _)

/-- A write of a byte address keeps the canonical form. -/
theorem Memory.Wf.write {m : Memory} (h : m.Wf) {a : Nat} (ha : a < 256) (v : Byte) : (m.write a v).Wf := by
  refine ⟨?_, fun c hc => ?_⟩
  · have hp := h.1
    clear h
    induction m with
    | nil => simp [Memory.write]
    | cons d m ih =>
      rw [List.pairwise_cons] at hp
      simp only [Memory.write]
      split
      · rename_i h1
        refine List.pairwise_cons.2 ⟨fun c hc => ?_, List.pairwise_cons.2 hp⟩
        rcases List.mem_cons.1 hc with rfl | hc
        · exact h1
        · exact lt_trans h1 (hp.1 c hc)
      · split
        · rename_i h2
          exact List.pairwise_cons.2 ⟨fun c hc => by simpa [h2] using hp.1 c hc, hp.2⟩
        · rename_i h1 h2
          refine List.pairwise_cons.2 ⟨fun c hc => ?_, ih hp.2⟩
          rcases Memory.mem_write hc with rfl | hc
          · simp only; omega
          · exact hp.1 c hc
  · rcases Memory.mem_write hc with rfl | hc
    · exact ha
    · exact h.2 c hc

/-- Forgetting keeps the canonical form. -/
theorem Memory.Wf.forget {m : Memory} (h : m.Wf) (a : Nat) : (m.forget a).Wf :=
  ⟨h.1.filter _, fun c hc => h.2 c (List.mem_of_mem_filter hc)⟩

/-- A completed transaction keeps the canonical form. -/
theorem Memory.Wf.effect {m : Memory} (h : m.Wf) (r : Request) : (r.effect m).Wf := by
  cases r with
  | read a => exact h
  | write a v => exact h.write a.isLt v

/-- A failed transaction keeps the canonical form. -/
theorem Memory.Wf.failEffect {m : Memory} (h : m.Wf) (r : Request) : (r.failEffect m).Wf := by
  cases r with
  | read a => exact h
  | write a v => exact h.forget a.toNat

/-- The memory of the reset state is canonical. -/
theorem reset_mem_wf : State.reset.mem.Wf := by decide

/-- A completed transaction touches no address but its own. -/
theorem Request.effect_other (r : Request) (m : Memory) {b : Nat} (h : b ≠ r.addr.toNat) :
    (r.effect m).read b = m.read b := by
  cases r with
  | read a => rfl
  | write a v => exact Memory.read_write_other m v h

/-- A failed transaction touches no address but its own. -/
theorem Request.failEffect_other (r : Request) (m : Memory) {b : Nat} (h : b ≠ r.addr.toNat) :
    (r.failEffect m).read b = m.read b := by
  cases r with
  | read a => rfl
  | write a v => exact Memory.read_forget_other m h

/-- The history records what the register space is: a completed transaction. -/
theorem Memory.replay_event (r : Request) (v : Byte) (es : List Event) :
    Memory.replay (r.event v :: es) = r.effect (Memory.replay es) := by
  cases r <;> rfl

/-- The history records what the register space is: a failed transaction. -/
theorem Memory.replay_failure (r : Request) (es : List Event) :
    Memory.replay (r.failure :: es) = r.failEffect (Memory.replay es) := by
  cases r <;> rfl

end Sys2Proof.Machine
end

