-- ==== Sys2Proof/Laws/PerInstr.lean ====
section
/-! SUPPORT. Statements about every instruction as syntax, one lemma per constructor. -/

namespace Sys2Proof.Laws

/-- How many bytes an instruction has on its port (R101, R102, R106, R111 to R117). -/
def encodedBytes : Instr → Nat
  | .init => 1
  | .scan => 1
  | .identify => 1
  | .select _ => 6
  | .authenticate _ _ _ _ => 12
  | .deauthenticate => 1
  | .read _ => 2
  | .write _ _ => 18
  | .rdreg _ _ => 3
  | .wrreg _ _ => 3
  | .cmdIdle => 1
  | .cmdCalcCrc => 1
  | .cmdTransceive => 1
  | .cmdMfAuthent => 1
  | .cmdSoftReset => 1
  | .request => 1
  | .anticoll => 2
  | .selectFrame _ _ => 9
  | .authblkA _ _ _ => 12
  | .authblkB _ _ _ => 12
  | .mfRead _ _ => 4
  | .mfWrite _ _ => 4
  | .mfWriteData _ _ => 18

/-- The encoder puts the instruction on its own port, with the number of bytes its format fixes (R84, R106, R109), and a
card frame fits the FIFO (R22). -/
def EncodedPort.Statement (i : Instr) : Prop :=
  ∀ c : Config, (encode c i).1 = i.port ∧ (encode c i).2.length = encodedBytes i ∧ encodedBytes i ≤ Config.fifoSize

theorem EncodedPort.init : EncodedPort.Statement .init := fun _ =>
  ⟨rfl, by simp [encode, encodeBytes, encodedBytes], by simp [encodedBytes, Config.fifoSize]⟩
theorem EncodedPort.scan : EncodedPort.Statement .scan := fun _ =>
  ⟨rfl, by simp [encode, encodeBytes, encodedBytes], by simp [encodedBytes, Config.fifoSize]⟩
theorem EncodedPort.identify : EncodedPort.Statement .identify := fun _ =>
  ⟨rfl, by simp [encode, encodeBytes, encodedBytes], by simp [encodedBytes, Config.fifoSize]⟩
theorem EncodedPort.select (sn : Bytes 5) : EncodedPort.Statement (.select sn) := fun _ =>
  ⟨rfl, by simp [encode, encodeBytes, encodedBytes], by simp [encodedBytes, Config.fifoSize]⟩
theorem EncodedPort.authenticate (keyB : Bool) (blk : Byte) (key : Bytes 6) (uid : Bytes 4) : EncodedPort.Statement (.authenticate keyB blk key uid) := fun _ =>
  ⟨rfl, by simp [encode, encodeBytes, encodedBytes], by simp [encodedBytes, Config.fifoSize]⟩
theorem EncodedPort.deauthenticate : EncodedPort.Statement .deauthenticate := fun _ =>
  ⟨rfl, by simp [encode, encodeBytes, encodedBytes], by simp [encodedBytes, Config.fifoSize]⟩
theorem EncodedPort.read (blk : Byte) : EncodedPort.Statement (.read blk) := fun _ =>
  ⟨rfl, by simp [encode, encodeBytes, encodedBytes], by simp [encodedBytes, Config.fifoSize]⟩
theorem EncodedPort.write (blk : Byte) (data : Bytes 16) : EncodedPort.Statement (.write blk data) := fun _ =>
  ⟨rfl, by simp [encode, encodeBytes, encodedBytes], by simp [encodedBytes, Config.fifoSize]⟩
theorem EncodedPort.rdreg (addr data : Byte) : EncodedPort.Statement (.rdreg addr data) := fun _ =>
  ⟨rfl, by simp [encode, encodeBytes, encodedBytes], by simp [encodedBytes, Config.fifoSize]⟩
theorem EncodedPort.wrreg (addr data : Byte) : EncodedPort.Statement (.wrreg addr data) := fun _ =>
  ⟨rfl, by simp [encode, encodeBytes, encodedBytes], by simp [encodedBytes, Config.fifoSize]⟩
theorem EncodedPort.cmdIdle : EncodedPort.Statement .cmdIdle := fun _ =>
  ⟨rfl, by simp [encode, encodeBytes, encodedBytes], by simp [encodedBytes, Config.fifoSize]⟩
theorem EncodedPort.cmdCalcCrc : EncodedPort.Statement .cmdCalcCrc := fun _ =>
  ⟨rfl, by simp [encode, encodeBytes, encodedBytes], by simp [encodedBytes, Config.fifoSize]⟩
theorem EncodedPort.cmdTransceive : EncodedPort.Statement .cmdTransceive := fun _ =>
  ⟨rfl, by simp [encode, encodeBytes, encodedBytes], by simp [encodedBytes, Config.fifoSize]⟩
theorem EncodedPort.cmdMfAuthent : EncodedPort.Statement .cmdMfAuthent := fun _ =>
  ⟨rfl, by simp [encode, encodeBytes, encodedBytes], by simp [encodedBytes, Config.fifoSize]⟩
theorem EncodedPort.cmdSoftReset : EncodedPort.Statement .cmdSoftReset := fun _ =>
  ⟨rfl, by simp [encode, encodeBytes, encodedBytes], by simp [encodedBytes, Config.fifoSize]⟩
theorem EncodedPort.request : EncodedPort.Statement .request := fun _ =>
  ⟨rfl, by simp [encode, encodeBytes, encodedBytes], by simp [encodedBytes, Config.fifoSize]⟩
theorem EncodedPort.anticoll : EncodedPort.Statement .anticoll := fun _ =>
  ⟨rfl, by simp [encode, encodeBytes, encodedBytes], by simp [encodedBytes, Config.fifoSize]⟩
theorem EncodedPort.selectFrame (sn : Bytes 5) (crc : Bytes 2) : EncodedPort.Statement (.selectFrame sn crc) := fun _ =>
  ⟨rfl, by simp [encode, encodeBytes, encodedBytes], by simp [encodedBytes, Config.fifoSize]⟩
theorem EncodedPort.authblkA (blk : Byte) (key : Bytes 6) (uid : Bytes 4) : EncodedPort.Statement (.authblkA blk key uid) := fun _ =>
  ⟨rfl, by simp [encode, encodeBytes, authBlockBytes, encodedBytes], by simp [encodedBytes, Config.fifoSize]⟩
theorem EncodedPort.authblkB (blk : Byte) (key : Bytes 6) (uid : Bytes 4) : EncodedPort.Statement (.authblkB blk key uid) := fun _ =>
  ⟨rfl, by simp [encode, encodeBytes, authBlockBytes, encodedBytes], by simp [encodedBytes, Config.fifoSize]⟩
theorem EncodedPort.mfRead (blk : Byte) (crc : Bytes 2) : EncodedPort.Statement (.mfRead blk crc) := fun _ =>
  ⟨rfl, by simp [encode, encodeBytes, encodedBytes], by simp [encodedBytes, Config.fifoSize]⟩
theorem EncodedPort.mfWrite (blk : Byte) (crc : Bytes 2) : EncodedPort.Statement (.mfWrite blk crc) := fun _ =>
  ⟨rfl, by simp [encode, encodeBytes, encodedBytes], by simp [encodedBytes, Config.fifoSize]⟩
theorem EncodedPort.mfWriteData (data : Bytes 16) (crc : Bytes 2) : EncodedPort.Statement (.mfWriteData data crc) := fun _ =>
  ⟨rfl, by simp [encode, encodeBytes, encodedBytes], by simp [encodedBytes, Config.fifoSize]⟩

end Sys2Proof.Laws
end

