-- ==== Sys2Proof/Laws/Sequencer.lean ====
section
/-! SUPPORT. What one transaction, a step and a run of transactions can do: the parts of the state no transaction touches, going
on answer by answer, and what acceptance leads to. -/

namespace Sys2Proof.Machine

/-- The parts of the state that the end of an exchange, and moving on to the next transaction, never touch. -/
abbrev SameBoundary (s t : State) : Prop :=
  t.cfg = s.cfg ∧ t.answers = s.answers ∧ t.inbox = s.inbox ∧ t.resetLine = s.resetLine ∧ t.events = s.events ∧
  t.mem = s.mem ∧ t.busFault = s.busFault

/-- Forgetting a key touches nothing of the boundary. -/
theorem releaseKey_boundary (s : State) (op : Op) : SameBoundary s (s.releaseKey op) := by
  simp only [State.releaseKey]; split <;> exact ⟨rfl, rfl, rfl, rfl, rfl, rfl, rfl⟩

/-- Nor does it move the sequencer. -/
@[simp] theorem State.releaseKey_seq (s : State) (op : Op) : (s.releaseKey op).seq = s.seq := by
  simp only [State.releaseKey]; split <;> rfl

/-- An operation that takes no key has none to forget. -/
theorem State.releaseKey_keyless (s : State) {op : Op} (h : op.takesKey = false) : s.releaseKey op = s := by
  simp [State.releaseKey, h]

/-- The end of an exchange touches only the results, the sequencer and the model's bookkeeping. -/
theorem endRun_boundary (s : State) (op : Op) (k : Nat) : SameBoundary s (s.endRun op k) := by
  cases op with
  | write ph =>
    cases ph <;> simp only [State.endRun, State.endWrite] <;> split <;>
      exact ⟨rfl, rfl, rfl, rfl, rfl, rfl, rfl⟩
  | scan => simp only [State.endRun, State.endScan]; split <;> exact ⟨rfl, rfl, rfl, rfl, rfl, rfl, rfl⟩
  | identify =>
    simp only [State.endRun, State.endIdentify]
    split
    · split <;> exact ⟨rfl, rfl, rfl, rfl, rfl, rfl, rfl⟩
    · exact ⟨rfl, rfl, rfl, rfl, rfl, rfl, rfl⟩
  | select => simp only [State.endRun, State.endSelect]; split <;> exact ⟨rfl, rfl, rfl, rfl, rfl, rfl, rfl⟩
  | authenticate =>
    simp only [State.endRun, State.endAuthenticate, State.authVerdict]
    split <;> exact ⟨rfl, rfl, rfl, rfl, rfl, rfl, rfl⟩
  | read =>
    simp only [State.endRun, State.endRead]
    split
    · split <;> exact ⟨rfl, rfl, rfl, rfl, rfl, rfl, rfl⟩
    · exact ⟨rfl, rfl, rfl, rfl, rfl, rfl, rfl⟩
  | exchange kind =>
    simp only [State.endRun, State.endExchange, State.exchangeVerdict]
    obtain ⟨h1, h2, h3, h4, h5, h6, h7⟩ := releaseKey_boundary
      (if s.status = .ok then s.finishOk (firstBytes s.rxBuf s.rxLen.toNat) (some s.rxBits) s.ghost
        else s.finishFailed s.status (some 0) s.ghost) (.exchange kind)
    refine ⟨h1.trans ?_, h2.trans ?_, h3.trans ?_, h4.trans ?_, h5.trans ?_, h6.trans ?_, h7.trans ?_⟩ <;>
      split <;> rfl
  | init => exact ⟨rfl, rfl, rfl, rfl, rfl, rfl, rfl⟩
  | deauthenticate => exact ⟨rfl, rfl, rfl, rfl, rfl, rfl, rfl⟩
  | busTransaction => exact ⟨rfl, rfl, rfl, rfl, rfl, rfl, rfl⟩
  | command => exact ⟨rfl, rfl, rfl, rfl, rfl, rfl, rfl⟩

/-- The end of an exchange leaves an engine at rest, or, after the first phase of WRITE, at the start of the second. -/
theorem endRun_seq (s : State) (op : Op) (k : Nat) :
    (s.endRun op k).seq = .idle ∨ (op = .write .one ∧ (s.endRun op k).seq = .run (.write .two) k (.crc .clearRead)) := by
  cases op with
  | write ph =>
    cases ph with
    | one =>
      simp only [State.endRun, State.endWrite]
      split
      · exact .inr ⟨trivial, rfl⟩
      · exact .inl rfl
    | two => simp only [State.endRun, State.endWrite]; split <;> exact .inl rfl
  | scan => simp only [State.endRun, State.endScan]; split <;> exact .inl rfl
  | identify =>
    simp only [State.endRun, State.endIdentify]
    split
    · split <;> exact .inl rfl
    · exact .inl rfl
  | select => simp only [State.endRun, State.endSelect]; split <;> exact .inl rfl
  | authenticate => simp only [State.endRun, State.endAuthenticate, State.authVerdict]; split <;> exact .inl rfl
  | read =>
    simp only [State.endRun, State.endRead]
    split
    · split <;> exact .inl rfl
    · exact .inl rfl
  | exchange kind =>
    simp only [State.endRun, State.endExchange, State.exchangeVerdict, State.releaseKey_seq]; split <;> exact .inl rfl
  | init => exact .inl rfl
  | deauthenticate => exact .inl rfl
  | busTransaction => exact .inl rfl
  | command => exact .inl rfl

/-- Where a completed transaction leads touches nothing of the boundary. -/
theorem advance_boundary (s : State) (op : Op) (k : Nat) (v : Byte) (p : Point) :
    SameBoundary s (advance s op k v p) := by
  have pass {s' : State} (h : SameBoundary s s') : SameBoundary s (s'.endRun op k) := by
    obtain ⟨a1, a2, a3, a4, a5, a6, a7⟩ := h
    obtain ⟨b1, b2, b3, b4, b5, b6, b7⟩ := endRun_boundary s' op k
    exact ⟨b1.trans a1, b2.trans a2, b3.trans a3, b4.trans a4, b5.trans a5, b6.trans a6, b7.trans a7⟩
  cases p with
  | init q =>
    cases q with
    | antennaTest =>
      simp only [advance, initAdvance]; split <;> exact ⟨rfl, rfl, rfl, rfl, rfl, rfl, rfl⟩
    | _ => exact ⟨rfl, rfl, rfl, rfl, rfl, rfl, rfl⟩
  | framing => simp only [advance, enterRun]; split <;> exact ⟨rfl, rfl, rfl, rfl, rfl, rfl, rfl⟩
  | crc q =>
    cases q with
    | flushWrite =>
      simp only [advance, crcAdvance, crcPush]; split <;> exact ⟨rfl, rfl, rfl, rfl, rfl, rfl, rfl⟩
    | push i => simp only [advance, crcAdvance, crcPush]; split <;> exact ⟨rfl, rfl, rfl, rfl, rfl, rfl, rfl⟩
    | poll => simp only [advance, crcAdvance]; split <;> exact ⟨rfl, rfl, rfl, rfl, rfl, rfl, rfl⟩
    | resultM =>
      simp only [advance, crcAdvance, enterRun]; split <;> exact ⟨rfl, rfl, rfl, rfl, rfl, rfl, rfl⟩
    | _ => exact ⟨rfl, rfl, rfl, rfl, rfl, rfl, rfl⟩
  | run q =>
    cases q with
    | idle => simp only [advance, runAdvance, runPush]; split <;> exact ⟨rfl, rfl, rfl, rfl, rfl, rfl, rfl⟩
    | push i => simp only [advance, runAdvance, runPush]; split <;> exact ⟨rfl, rfl, rfl, rfl, rfl, rfl, rfl⟩
    | start => simp only [advance, runAdvance]; split <;> exact ⟨rfl, rfl, rfl, rfl, rfl, rfl, rfl⟩
    | poll =>
      simp only [advance, runAdvance, afterPoll]
      split
      · exact pass ⟨rfl, rfl, rfl, rfl, rfl, rfl, rfl⟩
      · split <;> exact ⟨rfl, rfl, rfl, rfl, rfl, rfl, rfl⟩
    | error =>
      simp only [advance, runAdvance, afterError]
      split
      · exact pass ⟨rfl, rfl, rfl, rfl, rfl, rfl, rfl⟩
      · split
        · exact pass ⟨rfl, rfl, rfl, rfl, rfl, rfl, rfl⟩
        · split
          · exact ⟨rfl, rfl, rfl, rfl, rfl, rfl, rfl⟩
          · exact pass ⟨rfl, rfl, rfl, rfl, rfl, rfl, rfl⟩
    | drain len i =>
      simp only [advance, runAdvance, afterDrain]
      split
      · exact ⟨rfl, rfl, rfl, rfl, rfl, rfl, rfl⟩
      · exact pass ⟨rfl, rfl, rfl, rfl, rfl, rfl, rfl⟩
    | _ => exact ⟨rfl, rfl, rfl, rfl, rfl, rfl, rfl⟩
  | _ => exact ⟨rfl, rfl, rfl, rfl, rfl, rfl, rfl⟩

/-! ## One transaction -/

/-- In a running engine a transaction is the one its place names. -/
theorem tick_run {s : State} {op : Op} {k : Nat} {p : Point} (h : s.seq = .run op k p) (a : Answer) :
    tick s a = transact s op k p a := by
  simp only [tick, h]

/-- A completed transaction is recorded and the sequence goes on. -/
theorem tick_done {s : State} {op : Op} {k : Nat} {p : Point} (h : s.seq = .run op k p) (v : Byte) :
    tick s (.done v) = advance (s.record (request s op p) v) op (k + 1) v p := by
  simp only [tick, h, transact]

/-- A failed transaction is a bus error, and ends the operation. -/
theorem tick_failed {s : State} {op : Op} {k : Nat} {p : Point} (h : s.seq = .run op k p) :
    tick s .failed = (s.takeBusError (request s op p)).releaseKey op := by
  simp only [tick, h, transact]

/-- An engine that runs no operation makes no transaction. -/
theorem tick_rest {s : State} (h : s.running = false) (a : Answer) : tick s a = s := by
  cases hs : s.seq with
  | run op k p => simp [State.running, hs] at h
  | idle => simp only [tick, hs]
  | fault => simp only [tick, hs]

/-- Whether an operation runs. -/
theorem running_iff (s : State) : s.running = true ↔ ∃ op k p, s.seq = .run op k p := by
  cases hs : s.seq with
  | run op k p => simp [State.running, hs]
  | idle => simp [State.running, hs]
  | fault => simp [State.running, hs]

/-! ## Steps -/

/-- Drawing an answer from the tape. -/
theorem drawn_cons {s : State} {a : Answer} {as : List Answer} (h : s.answers = a :: as) :
    s.nextAnswer = a ∧ s.drawn = { s with answers := as } := by
  simp only [State.nextAnswer, State.drawn, h, and_self]

/-- Drawing an answer that has not been delivered. -/
theorem drawn_nil {s : State} (h : s.answers = []) : s.drawn = { s with fresh := s.fresh + 1 } := by
  simp only [State.drawn, h]

/-- Drawing an answer moves nothing. -/
@[simp] theorem State.drawn_seq (s : State) : s.drawn.seq = s.seq := by
  unfold State.drawn; split <;> rfl

/-- An engine at rest stays as it is. -/
theorem proceed_rest {s : State} (h : s.running = false) : s.proceed = s := by
  simp [State.proceed, h]

/-- A running engine makes the next transaction. -/
theorem proceed_run {s : State} (h : s.running = true) : s.proceed = tick s.drawn s.nextAnswer := by
  simp only [State.proceed, h, if_true]

/-- With nothing offered and no reset asked for, a step is the next transaction. -/
theorem step_goOn {s : State} (hr : s.resetLine = false) (hi : s.inbox = []) : step s = .next s.proceed := by
  simp [step, State.nextThing, hr, hi]

/-- What a step can do: an engine reset, an instruction, the refusal of a word, or the next transaction. -/
theorem step_cases (s : State) :
    (s.resetLine = true ∧ step s = .next s.engineReset) ∨
    (s.resetLine = false ∧ ∃ o rest i, s.inbox = o :: rest ∧ decode s.cfg o.port o.bytes = .ok i ∧
      step s = exec i { s with inbox := rest }) ∨
    (s.resetLine = false ∧ ∃ o rest r, s.inbox = o :: rest ∧ decode s.cfg o.port o.bytes = .error r ∧
      step s = .next { s with inbox := rest, reply := .turnedAway (.illegal r) }) ∨
    (s.resetLine = false ∧ s.inbox = [] ∧ step s = .next s.proceed) := by
  cases hr : s.resetLine with
  | true => exact .inl ⟨rfl, by simp [step, State.nextThing, hr]⟩
  | false =>
    cases hi : s.inbox with
    | nil => exact .inr (.inr (.inr ⟨rfl, rfl, step_goOn hr hi⟩))
    | cons o rest =>
      cases hd : decode s.cfg o.port o.bytes with
      | ok i =>
        refine .inr (.inl ⟨rfl, o, rest, i, rfl, hd, ?_⟩)
        simp [step, State.nextThing, State.taken, hr, hi, hd]
      | error r =>
        refine .inr (.inr (.inl ⟨rfl, o, rest, r, rfl, hd, ?_⟩))
        simp [step, State.nextThing, State.taken, State.turnAway, hr, hi, hd]

/-! ## Runs of transactions -/

/-- With no answer left the run stands where it is. -/
theorem drive_nil (s : State) : drive [] s = { s with answers := [] } := rfl

/-- A running engine takes the next answer. -/
theorem drive_cons {s : State} (h : s.running = true) (a : Answer) (as : List Answer) :
    drive (a :: as) s = drive as (tick s a) := by
  simp only [drive, h, if_true]

/-- An engine at rest leaves the answers where they are. -/
theorem drive_rest {s : State} (h : s.running = false) (as : List Answer) :
    drive as s = { s with answers := as } := by
  cases as with
  | nil => rfl
  | cons a as => simp [drive, h]

/-- A property that every transaction of a running engine keeps, and that does not look at the tape, is kept by a run. -/
theorem drive_induction {P : State → Prop} (step : ∀ s a, s.running = true → P s → P (tick s a))
    (tape : ∀ s as, P s → P { s with answers := as }) : ∀ (as : List Answer) (s : State), P s → P (drive as s)
  | [], s, h => tape s [] h
  | a :: as, s, h => by
    cases hr : s.running with
    | true => rw [drive_cons hr]; exact drive_induction step tape as _ (step s a hr h)
    | false => rw [drive_rest hr]; exact tape s _ h

/-! ## Acceptance -/

/-- A lone bus read is made exactly where the word is well formed (R59, R71). -/
theorem readAllowed_iff_wellFormed (c : Config) (a d : Byte) :
    readAllowed c a = (Instr.rdreg a d).wellFormed c := rfl

/-- A lone bus write is made exactly where the word is well formed (R59, R71, R105, R304). -/
theorem writeAllowed_iff_wellFormed (c : Config) (a v : Byte) :
    writeAllowed c a v = (Instr.wrreg a v).wellFormed c := rfl

/-- What a lone bus read starts with. -/
theorem startRdreg_cases (a : Byte) (s : State) :
    (readAllowed s.cfg a = true ∧ startRdreg a s = s.enterOp .busTransaction (.busRead a)) ∨
    (readAllowed s.cfg a = false ∧ startRdreg a s = s.turnAway (.illegal .notAccessed)) := by
  cases h : readAllowed s.cfg a <;> simp [startRdreg, h]

/-- What a lone bus write starts with. -/
theorem startWrreg_cases (a v : Byte) (s : State) :
    (writeAllowed s.cfg a v = true ∧ startWrreg a v s = s.enterOp .busTransaction (.busWrite a v)) ∨
    (writeAllowed s.cfg a v = false ∧ startWrreg a v s = s.turnAway (.illegal .notAccessed)) := by
  cases h : writeAllowed s.cfg a v <;> simp [startWrreg, h]

/-- What offering an instruction can lead to. -/
theorem launch_cases (s : State) (r : Option Refusal) (start : State → State) :
    (s.busFault = true ∧ launch s r start = .next (s.turnAway .busFault)) ∨
    (s.busFault = false ∧ s.seq ≠ .idle ∧ launch s r start = .next (s.turnAway .busy)) ∨
    (s.Accepting ∧ ∃ x, r = some x ∧ launch s r start = .refused x) ∨
    (s.Accepting ∧ r = none ∧ launch s r start = .next (start s)) := by
  cases hb : s.busFault with
  | true => exact .inl ⟨rfl, by simp [launch, hb]⟩
  | false =>
    by_cases hs : s.seq = .idle
    · cases r with
      | none => exact .inr (.inr (.inr ⟨⟨hs, hb⟩, rfl, by simp [launch, hb, hs]⟩))
      | some x => exact .inr (.inr (.inl ⟨⟨hs, hb⟩, x, rfl, by simp [launch, hb, hs]⟩))
    · exact .inr (.inl ⟨rfl, hs, by simp [launch, hb, hs]⟩)

/-- An accepting engine starts the operation. -/
theorem launch_accepting {s : State} (h : s.Accepting) (start : State → State) :
    launch s none start = .next (start s) := by
  simp [launch, h.1, h.2]

/-- Budgets of at least 1 leave nothing to refuse. -/
theorem pollRefusal_none {c : Config} (h : c.budgetsOk = true) : pollRefusal c = none := by
  simp [pollRefusal, h]

/-- Nor does an admitted configuration, for READ and WRITE. -/
theorem sessionRefusal_none {c : Config} (h : c.Wf) : sessionRefusal c = none := by
  obtain ⟨-, -, -, -, -, -, -, hb, -, ht⟩ := h
  simp [sessionRefusal, ht, pollRefusal_none hb]

end Sys2Proof.Machine
end

