-- ==== Sys2Proof/Laws/Tape.lean ====
section
/-! SUPPORT. The tape of answers steers nothing by itself: a transaction does not look at the answers still to come, so a run
may be cut where one likes. -/

namespace Sys2Proof.Machine

/-- The state with another tape. -/
def State.withTape (s : State) (as : List Answer) : State := { s with answers := as }

@[simp] theorem State.withTape_seq (s : State) (as : List Answer) : (s.withTape as).seq = s.seq := rfl
@[simp] theorem State.withTape_answers (s : State) (as : List Answer) : (s.withTape as).answers = as := rfl
@[simp] theorem State.withTape_running (s : State) (as : List Answer) : (s.withTape as).running = s.running := rfl
@[simp] theorem State.withTape_withTape (s : State) (as bs : List Answer) :
    (s.withTape as).withTape bs = s.withTape bs := rfl
@[simp] theorem State.withTape_self (s : State) : s.withTape s.answers = s := rfl

/-- Forgetting a key does not look at the tape. -/
theorem releaseKey_withTape (s : State) (as : List Answer) (op : Op) :
    (s.withTape as).releaseKey op = (s.releaseKey op).withTape as := by
  change (if op.takesKey then _ else _) = State.withTape (if op.takesKey then _ else _) as
  split <;> rfl

/-- The end of an exchange does not look at the tape. -/
theorem endRun_withTape (s : State) (as : List Answer) (op : Op) (k : Nat) :
    (s.withTape as).endRun op k = (s.endRun op k).withTape as := by
  cases op with
  | write ph =>
    cases ph with
    | one =>
      change (if s.phaseStatus = .ok then _ else _) = State.withTape (if s.phaseStatus = .ok then _ else _) as
      split <;> rfl
    | two =>
      change (if s.phaseStatus = .ok then _ else _) = State.withTape (if s.phaseStatus = .ok then _ else _) as
      split <;> rfl
  | scan =>
    change (if s.status = .ok ∧ atqaValid s.rxBits then _ else _) =
      State.withTape (if s.status = .ok ∧ atqaValid s.rxBits then _ else _) as
    split <;> rfl
  | identify =>
    change (if s.status = .ok then if identityValid s.rxLen s.rxBuf then _ else _ else _) =
      State.withTape (if s.status = .ok then if identityValid s.rxLen s.rxBuf then _ else _ else _) as
    split
    · split <;> rfl
    · rfl
  | select =>
    change (if s.status = .ok then _ else _) = State.withTape (if s.status = .ok then _ else _) as
    split <;> rfl
  | authenticate =>
    change State.dropKey (if s.status = .ok then _ else _) =
      State.withTape (State.dropKey (if s.status = .ok then _ else _)) as
    split <;> rfl
  | read =>
    change (if s.status = .ok then if blockReceived s.rxLen then _ else _ else _) =
      State.withTape (if s.status = .ok then if blockReceived s.rxLen then _ else _ else _) as
    split
    · split <;> rfl
    · rfl
  | exchange kind =>
    refine Eq.trans (congrArg (State.releaseKey · (.exchange kind)) ?_) (releaseKey_withTape s.exchangeVerdict as _)
    change (if s.status = .ok then _ else _) = State.withTape (if s.status = .ok then _ else _) as
    split <;> rfl
  | init => rfl
  | deauthenticate => rfl
  | busTransaction => rfl
  | command => rfl

/-- Entering the exchange does not look at the tape. -/
theorem enterRun_withTape (s : State) (as : List Answer) (op : Op) (k : Nat) :
    enterRun (s.withTape as) op k = (enterRun s op k).withTape as := by
  change (if Config.fifoSize < s.txLen.toNat then _ else _) =
    State.withTape (if Config.fifoSize < s.txLen.toNat then _ else _) as
  split <;> rfl

/-- Nor does the exit test of the completion poll. -/
theorem afterPoll_withTape (s : State) (as : List Answer) (op : Op) (k : Nat) :
    afterPoll (s.withTape as) op k = (afterPoll s op k).withTape as := by
  change (if s.cnt = 0 then ((s.noData .protocolError).withTape as).endRun op k
      else if pollSees s.cfg op.runs s.irqV then _ else _) =
    State.withTape (if s.cnt = 0 then (s.noData .protocolError).endRun op k
      else if pollSees s.cfg op.runs s.irqV then _ else _) as
  split
  · exact endRun_withTape _ _ _ _
  · split <;> rfl

/-- Nor does the outcome. -/
theorem afterError_withTape (s : State) (as : List Answer) (op : Op) (k : Nat) :
    afterError (s.withTape as) op k = (afterError s op k).withTape as := by
  change (if errorMasked s.cfg s.errV then ((s.noData .protocolError).withTape as).endRun op k
      else if noTag s.cfg op.runs s.irqV then ((s.noData .noTagError).withTape as).endRun op k
      else if op.runs = .transceive then _ else ((s.noData .ok).withTape as).endRun op k) =
    State.withTape (if errorMasked s.cfg s.errV then (s.noData .protocolError).endRun op k
      else if noTag s.cfg op.runs s.irqV then (s.noData .noTagError).endRun op k
      else if op.runs = .transceive then _ else (s.noData .ok).endRun op k) as
  split
  · exact endRun_withTape _ _ _ _
  · split
    · exact endRun_withTape _ _ _ _
    · split
      · rfl
      · exact endRun_withTape _ _ _ _

/-- Where a completed transaction leads does not depend on the tape. -/
theorem advance_withTape (s : State) (as : List Answer) (op : Op) (k : Nat) (v : Byte) (p : Point) :
    advance (s.withTape as) op k v p = (advance s op k v p).withTape as := by
  cases p with
  | init q =>
    cases q with
    | antennaTest =>
      change (if antennaIsOn s.cfg v then _ else _) = State.withTape (if antennaIsOn s.cfg v then _ else _) as
      split <;> rfl
    | _ => rfl
  | framing => exact enterRun_withTape (s.stage (op.framedFrame s.cfg)) as op k
  | crc q =>
    cases q with
    | flushWrite =>
      change (if 0 < s.txLen.toNat then _ else _) = State.withTape (if 0 < s.txLen.toNat then _ else _) as
      split <;> rfl
    | push i =>
      change (if i + 1 < s.txLen.toNat then _ else _) = State.withTape (if i + 1 < s.txLen.toNat then _ else _) as
      split <;> rfl
    | poll =>
      change (if s.cnt - 1 = 0 ∨ crcDone s.cfg v then _ else _) =
        State.withTape (if s.cnt - 1 = 0 ∨ crcDone s.cfg v then _ else _) as
      split <;> rfl
    | resultM => exact enterRun_withTape ({ s with crc := putBytes s.crc 1 [v] }.appendCrc) as op k
    | _ => rfl
  | run q =>
    cases q with
    | idle =>
      change (if 0 < s.txLen.toNat then _ else _) = State.withTape (if 0 < s.txLen.toNat then _ else _) as
      split <;> rfl
    | push i =>
      change (if i + 1 < s.txLen.toNat then _ else _) = State.withTape (if i + 1 < s.txLen.toNat then _ else _) as
      split <;> rfl
    | start =>
      change (if op.runs = .transceive then _ else _) = State.withTape (if op.runs = .transceive then _ else _) as
      split <;> rfl
    | poll => exact afterPoll_withTape { s with irqV := v, cnt := s.cnt - 1 } as op k
    | error => exact afterError_withTape { s with errV := v } as op k
    | drain len i =>
      let s' : State := { s with rxBuf := putBytes s.rxBuf i [v], rxLen := BitVec.ofNat 7 len }
      change (if i + 1 < len then _ else (s'.withTape as).endRun op k) =
        State.withTape (if i + 1 < len then _ else s'.endRun op k) as
      split
      · rfl
      · exact endRun_withTape s' as op k
    | _ => rfl
  | _ => rfl

/-- The transaction at a place does not depend on the tape. -/
theorem request_withTape (s : State) (as : List Answer) (op : Op) (p : Point) :
    request (s.withTape as) op p = request s op p := by
  cases p with
  | init q => cases q <;> rfl
  | crc q => cases q <;> rfl
  | run q => cases q <;> rfl
  | _ => rfl

/-- One transaction does not look at the answers still to come. -/
theorem tick_withTape (s : State) (as : List Answer) (a : Answer) :
    tick (s.withTape as) a = (tick s a).withTape as := by
  cases hs : s.seq with
  | run op k p =>
    cases a with
    | done v =>
      rw [tick_done (by exact hs), tick_done hs, request_withTape, ← advance_withTape]
      rfl
    | failed =>
      rw [tick_failed (by exact hs), tick_failed hs, request_withTape, ← releaseKey_withTape]
      rfl
  | idle => simp only [tick, State.withTape_seq, hs]
  | fault => simp only [tick, State.withTape_seq, hs]

/-- A run does not look at the tape it started with. -/
@[simp] theorem drive_withTape (as bs : List Answer) (s : State) : drive as (s.withTape bs) = drive as s := by
  induction as generalizing s with
  | nil => rfl
  | cons a as ih =>
    cases h : s.running with
    | true => rw [drive_cons (by exact h), drive_cons h, tick_withTape, ih]
    | false => rw [drive_rest (by exact h), drive_rest h]; rfl

/-- A run may be cut anywhere: the answers the first part left over come before the rest. -/
theorem drive_append (as bs : List Answer) (s : State) :
    drive (as ++ bs) s = drive ((drive as s).answers ++ bs) (drive as s) := by
  induction as generalizing s with
  | nil => exact (drive_withTape bs [] s).symm
  | cons a as ih =>
    cases h : s.running with
    | true => rw [List.cons_append, drive_cons h, drive_cons h, ih]
    | false =>
      rw [drive_rest h, drive_rest (s := s) h]
      exact (drive_rest (s := s.withTape (a :: as)) h _).symm

end Sys2Proof.Machine
end

