-- ==== Sys2Proof/Machine/Reference.lean ====
section
/-! DEFINITION. The reference transceiver and the scripted card of 60_exceptions.md R305 to R312: a NON-NORMATIVE stand-in
for the environment, for simulation. It is no part of `step`, and no statement rests on it: the normative model takes every
answer as a free draw (00_scope.md R16(3), 10_state.md R62). Log entry 25. -/

namespace Sys2Proof.Machine

/-- What the card script answers to a frame (R310). -/
inductive CardAnswer where
  | answer (bytes : List Byte) (lastBits : Byte)
  | silent
  | silentErr
  | error (e : Byte)
  | dead
deriving DecidableEq, Repr

/-- What the card script answers to MFAuthent (R311). -/
inductive AuthAnswer where
  | ok
  | fail
  | silent
  | silentErr
  | dead
deriving DecidableEq, Repr

/-- How frames are answered. R310 asks a script for its answer to `(tx, txbits)` and does not say which scripts exist.
DESIGN CHOICE (log entry 25): there are three kinds. The standard card, with its block 4 and whether it has accepted a write
command (R312); the same answer always; and the given answers one after the other whatever the frame, then silence. What any
other script answers along one run is a list of the third kind (P4b of 95_test_vectors.md is one). -/
inductive FrameScript where
  | standard (block : Bytes 16) (primed : Bool)
  | always (a : CardAnswer)
  | inOrder (answers : List CardAnswer)
deriving DecidableEq, Repr

/-- How MFAuthent is answered, by the same three kinds of script (R311, R312; DESIGN CHOICE, log entry 25). -/
inductive AuthScript where
  | standard
  | always (a : AuthAnswer)
  | inOrder (answers : List AuthAnswer)
deriving DecidableEq, Repr

/-- The scripted card (R310 to R312). -/
structure RefCard where
  frames : FrameScript
  auth   : AuthScript
deriving DecidableEq, Repr

/-- The reference transceiver (R306): registers (those not listed read 0x00), FIFO, active command, card. -/
structure RefChip where
  regs   : Memory
  fifo   : List Byte
  active : Command
  card   : RefCard
deriving DecidableEq, Repr

/-- The standard card's identity, UID then BCC (R312). -/
def stdIdentity : List Byte := [0xDE, 0xAD, 0xBE, 0xEF, 0x22]

/-- The standard card (R312): block 4 holds 10 .. 1F. -/
def stdCard : RefCard where
  frames := .standard (Vector.ofFn fun i => BitVec.ofNat 8 (16 + i.val)) false
  auth   := .standard

/-- The chip at power-up (R306). -/
def RefChip.powerUp (card : RefCard) : RefChip := ⟨[], [], .idle, card⟩

/-- The standard card's answer to a frame of the given bytes and last-byte bits (R312). DESIGN CHOICE (log entry 25): "an
18-byte data frame after that" is taken as an 18-byte frame with all bits significant, directly after the accepted write
command; any other frame between them ends the readiness. -/
def stdAnswer (block : Bytes 16) (primed : Bool) (tx : List Byte) (bits : Byte) : CardAnswer × FrameScript :=
  let same := FrameScript.standard block false
  if tx = [0x26] ∧ bits = 7 then (.answer [0x04, 0x00] 0, same)
  else if bits ≠ 0 then (.silent, same)
  else if tx = [0x93, 0x20] then (.answer stdIdentity 0, same)
  else if tx = 0x93 :: 0x70 :: stdIdentity ++ [0xB9, 0x9C] then (.answer [0x08, 0xB6, 0xDD] 0, same)
  else if tx = [0x30, 0x04, 0x26, 0xEE] then (.answer (block.toList ++ crcBytes (crcA block.toList)) 0, same)
  else if tx = [0xA0, 0x04, 0x7B, 0xF7] then (.answer [0x0A] 4, .standard block true)
  else if primed ∧ tx.length = 18 then (.answer [0x0A] 4, .standard (toBytes 16 tx) false)
  else (.silent, same)

/-- The script is asked for its answer to a frame (R310). -/
def RefCard.answer (card : RefCard) (tx : List Byte) (bits : Byte) : CardAnswer × RefCard :=
  match card.frames with
  | .standard block primed =>
    let r := stdAnswer block primed tx bits
    (r.1, { card with frames := r.2 })
  | .always a => (a, card)
  | .inOrder [] => (.silent, card)
  | .inOrder (a :: rest) => (a, { card with frames := .inOrder rest })

/-- The script is asked for its answer to MFAuthent (R311, R312). -/
def RefCard.authAnswer (card : RefCard) (tx : List Byte) : AuthAnswer × RefCard :=
  match card.auth with
  | .standard =>
    if tx = [0x60, 0x04, 0xFF, 0xFF, 0xFF, 0xFF, 0xFF, 0xFF, 0xDE, 0xAD, 0xBE, 0xEF] then (.ok, card)
    else (.silent, card)
  | .always a => (a, card)
  | .inOrder [] => (.silent, card)
  | .inOrder (a :: rest) => (a, { card with auth := .inOrder rest })

/-- A stored register (R306). -/
def RefChip.reg (ch : RefChip) (a : Byte) : Byte := (ch.regs.read a.toNat).getD 0

/-- Store a register. -/
def RefChip.setReg (ch : RefChip) (a v : Byte) : RefChip := { ch with regs := ch.regs.write a.toNat v }

/-- Set bits of a register. -/
def RefChip.orReg (ch : RefChip) (a m : Byte) : RefChip := ch.setReg a (ch.reg a ||| m)

/-- Transmit (R310). DESIGN CHOICE (log entry 25): R306 bounds `fifo` at 64 bytes and R310 stores a scripted answer without
naming a bound; an answer of more than 64 bytes is stored whole. The standard card gives none. -/
def RefChip.transmit (c : Config) (ch : RefChip) : RefChip :=
  let r := ch.card.answer ch.fifo (ch.reg c.reg.bitFraming &&& 7)
  let ch1 := { ch with fifo := [], card := r.2 }.orReg c.reg.comIrq c.bit.txIRq
  match r.1 with
  | .answer bytes last =>
    let ctl := (ch1.reg c.reg.control &&& 0xF8) ||| (last &&& 7)
    ({ ch1 with fifo := bytes }.setReg c.reg.control ctl).orReg c.reg.comIrq c.bit.rxIRq
  | .silent => ch1.orReg c.reg.comIrq c.bit.timerIRq
  | .silentErr => ch1.orReg c.reg.comIrq (c.bit.timerIRq ||| c.bit.errIRq)
  | .error e => (ch1.setReg c.reg.error e).orReg c.reg.comIrq (c.bit.errIRq ||| c.bit.rxIRq)
  | .dead => ch1

/-- MFAuthent (R311). -/
def RefChip.authenticate (c : Config) (ch : RefChip) : RefChip :=
  let r := ch.card.authAnswer ch.fifo
  let ch1 := { ch with fifo := [], active := .mfAuthent, card := r.2 }
  match r.1 with
  | .ok =>
    ({ ch1 with active := .idle }.orReg c.reg.status2 c.bit.crypto1On).orReg c.reg.comIrq c.bit.idleIRq
  | .fail => (ch1.setReg c.reg.error 1).orReg c.reg.comIrq (c.bit.errIRq ||| c.bit.idleIRq)
  | .silent => ch1.orReg c.reg.comIrq c.bit.timerIRq
  | .silentErr => ch1.orReg c.reg.comIrq (c.bit.timerIRq ||| c.bit.errIRq)
  | .dead => ch1

/-- A command is written (R309). DESIGN CHOICE (log entry 25): R309 does not say whether the byte is also stored in
`regs[REG.Command]`; it is not, and a read of that register gives 0x00. -/
def RefChip.command (c : Config) (ch : RefChip) (v : Byte) : RefChip :=
  let code := v &&& 0x0F
  if code = c.cmd.softReset then { ch with regs := [], fifo := [], active := .idle }
  else if code = c.cmd.calcCrc then
    let x := crcFrom (crcPreset (ch.reg c.reg.mode)) ch.fifo
    ((({ ch with fifo := [], active := .calcCrc }.setReg c.reg.crcResultL (x.extractLsb' 0 8)).setReg
      c.reg.crcResultM (x.extractLsb' 8 8))).orReg c.reg.divIrq c.bit.crcIRq
  else if code = c.cmd.transceive then { ch with active := .transceive }
  else if code = c.cmd.mfAuthent then ch.authenticate c
  else { ch with active := .idle }

/-- A write to a request register (R308). -/
def RefChip.writeRequests (ch : RefChip) (a v : Byte) : RefChip :=
  let m := v &&& 0x7F
  ch.setReg a (if v.getLsbD 7 then ch.reg a ||| m else ch.reg a &&& ~~~m)

/-- A read (R306, R307): the byte returned and the chip after it. -/
def RefChip.readReg (c : Config) (ch : RefChip) (a : Byte) : Byte × RefChip :=
  if a = c.reg.fifoData then (ch.fifo.headD 0, { ch with fifo := ch.fifo.tail })
  else if a = c.reg.fifoLevel then (BitVec.ofNat 8 ch.fifo.length, ch)
  else (ch.reg a, ch)

/-- A write (R306 to R309). -/
def RefChip.writeReg (c : Config) (ch : RefChip) (a v : Byte) : RefChip :=
  if a = c.reg.command then ch.command c v
  else if a = c.reg.fifoData then
    if ch.fifo.length < Config.fifoSize then { ch with fifo := ch.fifo ++ [v] }
    else (ch.orReg c.reg.error 0x10).orReg c.reg.comIrq c.bit.errIRq
  else if a = c.reg.fifoLevel then
    if v.getLsbD 7 then { ch with fifo := [] }.setReg c.reg.error (ch.reg c.reg.error &&& 0xEF) else ch
  else if a = c.reg.comIrq ∨ a = c.reg.divIrq then ch.writeRequests a v
  else if a = c.reg.bitFraming then
    let ch1 := ch.setReg a (v &&& 0x7F)
    if v.getLsbD 7 ∧ ch.active = .transceive then ch1.transmit c else ch1
  else if a = c.reg.status2 then ch.setReg a ((v &&& 0xF7) ||| (ch.reg a &&& v &&& 0x08))
  else ch.setReg a v

/-- The chip answers one transaction; it never fails. -/
def RefChip.serve (c : Config) (ch : RefChip) : Request → Byte × RefChip
  | .read a => ch.readReg c a
  | .write a v => (0, ch.writeReg c a v)

/-- One transaction of the engine against the reference transceiver. -/
def coTick (x : RefChip × State) : RefChip × State :=
  match x.2.seq with
  | .run op _ p =>
    let r := x.1.serve x.2.cfg (request x.2 op p)
    (r.2, tick x.2 (.done r.1))
  | .idle => x
  | .fault => x

/-- At most `n` transactions against the reference transceiver. -/
def coRun : Nat → RefChip × State → RefChip × State
  | 0, x => x
  | n + 1, x => if x.2.running then coRun n (coTick x) else x

/-- An instruction accepted by the engine and run against the reference transceiver. -/
def coExec (n : Nat) (i : Instr) (x : RefChip × State) : RefChip × State :=
  match exec i x.2 with
  | .next s => coRun n (x.1, s)
  | .fault _ => x
  | .refused _ => x

end Sys2Proof.Machine
end

