-- ==== Sys2Proof/Tests/Slice0.lean ====
section
/-! SUPPORT. Tests: ill-formed terms refused, words written out from the spec's encodings, the spec's traces one operation at a
time, and, for every obligation with hypotheses, a state and operands that meet them together. -/

namespace Sys2Proof.Machine.Tests

-- One test after the other: checked all at once, the waiting ones hold too many threads.
set_option Elab.async false

/-! ## Helpers -/

/-- The write of a byte at an address. -/
def w (a v : Byte) : Event := .write a v

/-- The read of an address that returned a byte. -/
def r (a v : Byte) : Event := .read a v

/-- The answer the environment gave in an event. -/
def answerOf : Event → Answer
  | .read _ v => .done v
  | .write _ _ => .done 0
  | .readFailed _ => .failed
  | .writeFailed _ _ => .failed

/-- The answers that produce a trace. -/
def tapeOf (es : List Event) : List Answer := es.map answerOf

/-- The outcome is a next state with a property. -/
def nextIs (p : State → Bool) : Host.Outcome State Fault Refusal → Bool
  | .next t => p t
  | .fault _ => false
  | .refused _ => false

/-- The outcome is a refusal by a name. -/
def refusedBy (x : Refusal) : Host.Outcome State Fault Refusal → Bool
  | .refused y => decide (x = y)
  | .next _ => false
  | .fault _ => false

/-- The run of an instruction reaches a state with a property. -/
def ran (p : State → Bool) (i : Instr) (s : State) : Bool := nextIs (fun u => p u.resume) (exec i s)

/-- An instruction accepted in a state with the answers of a trace, and then one step of the machine for each of its
transactions, makes exactly that trace and ends with a property. -/
def makes (i : Instr) (s : State) (es : List Event) (p : State → Bool) : Bool :=
  nextIs (fun u => nextIs (fun t => decide (t.events.reverse = s.events.reverse ++ es) && decide (t.answers = []) &&
    decide (t.seq = .idle) && p t) (steps es.length u)) (exec i { s with answers := tapeOf es })

/-- The engine ended with this reply. -/
def replies (x : Reply) (t : State) : Bool := decide (t.reply = x)

/-- Small budgets. -/
def small : Config := { Config.default with transceiveBudget := 3, crcBudget := 2 }

/-- An engine at rest with small budgets. -/
def rest : State := { State.reset with cfg := small }

/-- An engine at a place of an operation, with a frame of one byte staged. -/
def inRun (op : Op) (p : Point) : State := { rest with seq := .run op 4 p, txLen := 1, cnt := 1 }

/-- The serial number of the standard card (R312). -/
def card : Bytes 5 := #v[0xDE, 0xAD, 0xBE, 0xEF, 0x22]

/-- Its first four bytes. -/
def uid : Bytes 4 := #v[0xDE, 0xAD, 0xBE, 0xEF]

/-- The key of the vectors. -/
def key : Bytes 6 := Vector.replicate 6 0xFF

/-- The data of programs P3 and P4: 00 01 .. 0F. -/
def block : Bytes 16 := Vector.ofFn fun i => BitVec.ofNat 8 i.val

/-! ## WellFormed: each check refuses an ill-formed term -/

theorem test_wf_read_unlisted : Instr.wellFormed Config.default (.rdreg 0x03 0) = false := by decide
theorem test_wf_read_write_only : Instr.wellFormed Config.default (.rdreg 0x01 0) = false := by decide
theorem test_wf_read_version : Instr.wellFormed Config.default (.rdreg 0x37 0) = false := by decide
theorem test_wf_write_unlisted : Instr.wellFormed Config.default (.wrreg 0x03 0) = false := by decide
theorem test_wf_write_read_only : Instr.wellFormed Config.default (.wrreg 0x06 0) = false := by decide
theorem test_wf_write_no_command : Instr.wellFormed Config.default (.wrreg 0x01 0x04) = false := by decide
theorem test_wf_write_antenna_off : Instr.wellFormed Config.default (.wrreg 0x14 0x00) = false := by decide
theorem test_wf_read_fine : Instr.wellFormed Config.default (.rdreg 0x04 0x60) = true := by decide
theorem test_wf_write_fine : Instr.wellFormed Config.default (.wrreg 0x01 0x0C) = true := by decide
theorem test_default_config_wf : Config.default.Wf := by decide
theorem test_small_config_wf : small.Wf := by decide

/-! ## Decoding: words written out from R101, R104, R106, R107 and R110 to R117 -/

/-- The decoder reads the instruction from the bytes. -/
def reads (p : Port) (l : List Byte) (i : Instr) : Bool :=
  decide ((decode Config.default p l).toOption = some i)

theorem test_decode_init : reads .host [0b00000000] .init = true := by decide
theorem test_decode_scan : reads .host [0b00000001] .scan = true := by decide
theorem test_decode_identify : reads .host [0b00000010] .identify = true := by decide
theorem test_decode_select :
    reads .host [0b00000011, 0xDE, 0xAD, 0xBE, 0xEF, 0x22] (.select card) = true := by decide
theorem test_decode_auth_a :
    reads .host [0b00000100, 0x04, 0xFF, 0xFF, 0xFF, 0xFF, 0xFF, 0xFF, 0xDE, 0xAD, 0xBE, 0xEF] (.authenticate false 4 key uid) = true := by decide
theorem test_decode_auth_b : reads .host [0b00001100, 0x07, 0xA0, 0xA1, 0xA2, 0xA3, 0xA4, 0xA5, 0x12, 0x34, 0x56, 0x78] 
      (.authenticate true 7 #v[0xA0, 0xA1, 0xA2, 0xA3, 0xA4, 0xA5] #v[0x12, 0x34, 0x56, 0x78]) = true := by decide
theorem test_decode_deauthenticate : reads .host [0b00000101] .deauthenticate = true := by decide
theorem test_decode_read : reads .host [0b00000110, 0x04] (.read 4) = true := by decide
theorem test_decode_write :
    reads .host [0b00000111, 4, 0, 1, 2, 3, 4, 5, 6, 7, 8, 9, 10, 11, 12, 13, 14, 15] (.write 4 block) = true := by decide
theorem test_decode_rdreg : reads .bus [0x60, 0x04, 0] (.rdreg 0x04 0x60) = true := by decide
theorem test_decode_wrreg : reads .bus [0x0C, 0x01, 1] (.wrreg 0x01 0x0C) = true := by decide
theorem test_decode_cmd_idle : reads .command [0x00] .cmdIdle = true := by decide
theorem test_decode_cmd_calccrc : reads .command [0x03] .cmdCalcCrc = true := by decide
theorem test_decode_cmd_transceive : reads .command [0x0C] .cmdTransceive = true := by decide
theorem test_decode_cmd_mfauthent : reads .command [0x0E] .cmdMfAuthent = true := by decide
theorem test_decode_cmd_softreset : reads .command [0x0F] .cmdSoftReset = true := by decide
theorem test_decode_request : reads .frame [0b00100110] .request = true := by decide
theorem test_decode_anticoll : reads .frame [0x93, 0x20] .anticoll = true := by decide
theorem test_decode_select_frame :
    reads .frame [0x93, 0x70, 0xDE, 0xAD, 0xBE, 0xEF, 0x22, 0xB9, 0x9C] (.selectFrame card #v[0xB9, 0x9C]) = true := by decide
theorem test_decode_authblk_a :
    reads .frame [0x60, 4, 0xFF, 0xFF, 0xFF, 0xFF, 0xFF, 0xFF, 0xDE, 0xAD, 0xBE, 0xEF] (.authblkA 4 key uid) = true := by decide
theorem test_decode_authblk_b :
    reads .frame [0x61, 4, 0xFF, 0xFF, 0xFF, 0xFF, 0xFF, 0xFF, 0xDE, 0xAD, 0xBE, 0xEF] (.authblkB 4 key uid) = true := by decide
theorem test_decode_mfread : reads .frame [0x30, 0x04, 0x26, 0xEE] (.mfRead 4 #v[0x26, 0xEE]) = true := by decide
theorem test_decode_mfwrite : reads .frame [0xA0, 0x04, 0x7B, 0xF7] (.mfWrite 4 #v[0x7B, 0xF7]) = true := by decide
theorem test_decode_mfwrite_data :
    reads .frame [0, 1, 2, 3, 4, 5, 6, 7, 8, 9, 10, 11, 12, 13, 14, 15, 0x77, 0xF5] (.mfWriteData block #v[0x77, 0xF5]) = true := by decide
theorem test_decode_key_bit_elsewhere : (decode Config.default .host [0x0D]).toOption = none := by decide
theorem test_decode_high_bits : (decode Config.default .host [0x10]).toOption = none := by decide
theorem test_decode_no_command : (decode Config.default .command [0x04]).toOption = none := by decide
theorem test_decode_wakeup : (decode Config.default .frame [0x52]).toOption = none := by decide
theorem test_table_bus_word : decodeTableWord 17 0x1010C = some (.wrreg 0x01 0x0C) := by decide
theorem test_table_auth_word : decodeTableWord 8 0x0C = some (.authenticate true 0 (Vector.replicate 6 0) (Vector.replicate 4 0)) := by
  decide
theorem test_table_frame_word : decodeTableWord 32 0x300426EE = some (.mfRead 4 #v[0x26, 0xEE]) := by decide

/-! ## The traces of the test vectors, one operation at a time (95_test_vectors.md) -/

/-- P1. -/
theorem test_init_p1 : makes .init rest
   [w 0x01 0x0F, w 0x2A 0x8D, w 0x2B 0x3E, w 0x2D 0x1E, w 0x2C 0x00, w 0x15 0x40, w 0x11 0x3D, r 0x14 0x00,
    r 0x14 0x00, w 0x14 0x03]
   (fun t => replies .completed t && decide (t.tmp = 0)) = true := by decide +kernel

/-- R168: the antenna already on, 8 transactions. -/
theorem test_init_antenna_on : makes .init rest
   [w 0x01 0x0F, w 0x2A 0x8D, w 0x2B 0x3E, w 0x2D 0x1E, w 0x2C 0x00, w 0x15 0x40, w 0x11 0x3D, r 0x14 0x83]
   (fun t => replies .completed t && decide (t.tmp = 0x83)) = true := by decide +kernel

/-- P1. -/
theorem test_scan_p1 : makes .scan State.reset
   [w 0x0D 0x07, w 0x02 0xF7, r 0x04 0x00, w 0x04 0x00, r 0x0A 0x00, w 0x0A 0x80, w 0x01 0x00, w 0x09 0x26,
    w 0x01 0x0C, r 0x0D 0x07, w 0x0D 0x87, r 0x04 0x60, r 0x0D 0x07, w 0x0D 0x07, r 0x06 0x00, r 0x0A 0x02,
    r 0x0C 0x00, r 0x09 0x04, r 0x09 0x00]
   (fun t => replies (.result .ok [0x04, 0x00] none) t && decide (t.rxBits = 16 ∧ t.cnt = 1999 ∧ t.irqV = 0x60)) = true := by decide +kernel

/-- P6 case a: the read that brings the counter to 0 does not count. -/
theorem test_scan_p6_exhausted : makes .scan rest
   [w 0x0D 0x07, w 0x02 0xF7, r 0x04 0x00, w 0x04 0x00, r 0x0A 0x00, w 0x0A 0x80, w 0x01 0x00, w 0x09 0x26,
    w 0x01 0x0C, r 0x0D 0x07, w 0x0D 0x87, r 0x04 0x00, r 0x04 0x00, r 0x04 0x60]
   (fun t => replies (.result .protocolError [] none) t && decide (t.cnt = 0 ∧ t.irqV = 0x60)) = true := by decide +kernel

/-- P1. -/
theorem test_identify_p1 : makes .identify rest
   [w 0x0D 0x00, w 0x02 0xF7, r 0x04 0x60, w 0x04 0x60, r 0x0A 0x00, w 0x0A 0x80, w 0x01 0x00, w 0x09 0x93,
    w 0x09 0x20, w 0x01 0x0C, r 0x0D 0x00, w 0x0D 0x80, r 0x04 0x60, r 0x0D 0x00, w 0x0D 0x00, r 0x06 0x00,
    r 0x0A 0x05, r 0x0C 0x00, r 0x09 0xDE, r 0x09 0xAD, r 0x09 0xBE, r 0x09 0xEF, r 0x09 0x22]
   (fun t => replies (.result .ok [0xDE, 0xAD, 0xBE, 0xEF, 0x22] none) t && decide (t.rxBits = 40)) = true := by decide +kernel

/-- V5.1: the last byte 0x23. -/
theorem test_identify_bad_bcc : makes .identify rest
   [w 0x0D 0x00, w 0x02 0xF7, r 0x04 0x60, w 0x04 0x60, r 0x0A 0x00, w 0x0A 0x80, w 0x01 0x00, w 0x09 0x93,
    w 0x09 0x20, w 0x01 0x0C, r 0x0D 0x00, w 0x0D 0x80, r 0x04 0x60, r 0x0D 0x00, w 0x0D 0x00, r 0x06 0x00,
    r 0x0A 0x05, r 0x0C 0x00, r 0x09 0xDE, r 0x09 0xAD, r 0x09 0xBE, r 0x09 0xEF, r 0x09 0x23]
   (replies (.result .protocolError [] none)) = true := by decide +kernel

/-- P2. -/
theorem test_select_p2 : makes (.select card) rest
   [r 0x05 0x00, w 0x05 0x00, r 0x0A 0x00, w 0x0A 0x80, w 0x09 0x93, w 0x09 0x70, w 0x09 0xDE, w 0x09 0xAD,
    w 0x09 0xBE, w 0x09 0xEF, w 0x09 0x22, w 0x01 0x03, r 0x05 0x04, r 0x22 0xB9, r 0x21 0x9C, w 0x02 0xF7,
    r 0x04 0x60, w 0x04 0x60, r 0x0A 0x00, w 0x0A 0x80, w 0x01 0x00, w 0x09 0x93, w 0x09 0x70, w 0x09 0xDE,
    w 0x09 0xAD, w 0x09 0xBE, w 0x09 0xEF, w 0x09 0x22, w 0x09 0xB9, w 0x09 0x9C, w 0x01 0x0C, r 0x0D 0x00,
    w 0x0D 0x80, r 0x04 0x60, r 0x0D 0x00, w 0x0D 0x00, r 0x06 0x00, r 0x0A 0x03, r 0x0C 0x00, r 0x09 0x08,
    r 0x09 0xB6, r 0x09 0xDD]
   (fun t => replies (.result .ok [0x08, 0xB6, 0xDD] (some 24)) t && decide (t.crc = #v[0xB9, 0x9C])) = true := by decide +kernel

/-- P2. -/
theorem test_authenticate_p2 : makes (.authenticate false 4 key uid) rest
   [w 0x02 0x92, r 0x04 0x60, w 0x04 0x60, r 0x0A 0x00, w 0x0A 0x80, w 0x01 0x00, w 0x09 0x60, w 0x09 0x04,
    w 0x09 0xFF, w 0x09 0xFF, w 0x09 0xFF, w 0x09 0xFF, w 0x09 0xFF, w 0x09 0xFF, w 0x09 0xDE, w 0x09 0xAD,
    w 0x09 0xBE, w 0x09 0xEF, w 0x01 0x0E, r 0x04 0x10, r 0x0D 0x00, w 0x0D 0x00, r 0x06 0x00]
   (fun t => replies (.result .ok [] none) t && decide (t.rxLen = 0 ∧ t.irqV = 0x10)) = true := by decide +kernel

/-- V3.4: timer and error bits, no masked error. -/
theorem test_authenticate_no_tag : makes (.authenticate false 4 key uid) rest
   [w 0x02 0x92, r 0x04 0x60, w 0x04 0x60, r 0x0A 0x00, w 0x0A 0x80, w 0x01 0x00, w 0x09 0x60, w 0x09 0x04,
    w 0x09 0xFF, w 0x09 0xFF, w 0x09 0xFF, w 0x09 0xFF, w 0x09 0xFF, w 0x09 0xFF, w 0x09 0xDE, w 0x09 0xAD,
    w 0x09 0xBE, w 0x09 0xEF, w 0x01 0x0E, r 0x04 0x03, r 0x0D 0x00, w 0x0D 0x00, r 0x06 0x00]
   (replies (.result .noTagError [] none)) = true := by decide +kernel

/-- P2. -/
theorem test_deauthenticate_p2 : makes .deauthenticate rest
   [r 0x08 0x08, w 0x08 0x00]
   (fun t => replies .completed t && decide (t.tmp = 0x08)) = true := by decide +kernel

/-- P2: the block unchanged, the card's CRC not part of it. -/
theorem test_read_p2 : makes (.read 4) rest
   [r 0x05 0x04, w 0x05 0x00, r 0x0A 0x00, w 0x0A 0x80, w 0x09 0x30, w 0x09 0x04, w 0x01 0x03, r 0x05 0x04,
    r 0x22 0x26, r 0x21 0xEE, w 0x02 0xF7, r 0x04 0x10, w 0x04 0x10, r 0x0A 0x00, w 0x0A 0x80, w 0x01 0x00,
    w 0x09 0x30, w 0x09 0x04, w 0x09 0x26, w 0x09 0xEE, w 0x01 0x0C, r 0x0D 0x00, w 0x0D 0x80, r 0x04 0x60,
    r 0x0D 0x00, w 0x0D 0x00, r 0x06 0x00, r 0x0A 0x12, r 0x0C 0x00, r 0x09 0x10, r 0x09 0x11, r 0x09 0x12,
    r 0x09 0x13, r 0x09 0x14, r 0x09 0x15, r 0x09 0x16, r 0x09 0x17, r 0x09 0x18, r 0x09 0x19, r 0x09 0x1A,
    r 0x09 0x1B, r 0x09 0x1C, r 0x09 0x1D, r 0x09 0x1E, r 0x09 0x1F, r 0x09 0x22, r 0x09 0xE8]
   (fun t => replies (.result .ok [0x10, 0x11, 0x12, 0x13, 0x14, 0x15, 0x16, 0x17, 0x18, 0x19, 0x1A, 0x1B, 0x1C, 0x1D,
    0x1E, 0x1F] none) t && decide (t.rxBits = 144)) = true := by decide +kernel

/-- V5.4: 15 bytes are too few; after a failure in AUTHENTICATED a DEAUTHENTICATE is owed (R335). -/
theorem test_read_fifteen_bytes : makes (.read 4) { rest with ghost := .authenticated 4 }
   [r 0x05 0x04, w 0x05 0x00, r 0x0A 0x00, w 0x0A 0x80, w 0x09 0x30, w 0x09 0x04, w 0x01 0x03, r 0x05 0x04,
    r 0x22 0x26, r 0x21 0xEE, w 0x02 0xF7, r 0x04 0x10, w 0x04 0x10, r 0x0A 0x00, w 0x0A 0x80, w 0x01 0x00,
    w 0x09 0x30, w 0x09 0x04, w 0x09 0x26, w 0x09 0xEE, w 0x01 0x0C, r 0x0D 0x00, w 0x0D 0x80, r 0x04 0x60,
    r 0x0D 0x00, w 0x0D 0x00, r 0x06 0x00, r 0x0A 0x0F, r 0x0C 0x00, r 0x09 0x10, r 0x09 0x11, r 0x09 0x12,
    r 0x09 0x13, r 0x09 0x14, r 0x09 0x15, r 0x09 0x16, r 0x09 0x17, r 0x09 0x18, r 0x09 0x19, r 0x09 0x1A,
    r 0x09 0x1B, r 0x09 0x1C, r 0x09 0x1D, r 0x09 0x1E]
   (fun t => replies (.result .protocolError [] none) t && decide (t.ghost = .ready true) && !t.ghost.allows .scan &&
    t.ghost.allows .deauthenticate) = true := by decide +kernel

/-- P4. -/
theorem test_write_p4 : makes (.write 4 block) rest
   [r 0x05 0x04, w 0x05 0x00, r 0x0A 0x00, w 0x0A 0x80, w 0x09 0xA0, w 0x09 0x04, w 0x01 0x03, r 0x05 0x04,
    r 0x22 0x7B, r 0x21 0xF7, w 0x02 0xF7, r 0x04 0x10, w 0x04 0x10, r 0x0A 0x00, w 0x0A 0x80, w 0x01 0x00,
    w 0x09 0xA0, w 0x09 0x04, w 0x09 0x7B, w 0x09 0xF7, w 0x01 0x0C, r 0x0D 0x00, w 0x0D 0x80, r 0x04 0x60,
    r 0x0D 0x00, w 0x0D 0x00, r 0x06 0x00, r 0x0A 0x01, r 0x0C 0x04, r 0x09 0x0A, r 0x05 0x04, w 0x05 0x00,
    r 0x0A 0x00, w 0x0A 0x80, w 0x09 0x00, w 0x09 0x01, w 0x09 0x02, w 0x09 0x03, w 0x09 0x04, w 0x09 0x05,
    w 0x09 0x06, w 0x09 0x07, w 0x09 0x08, w 0x09 0x09, w 0x09 0x0A, w 0x09 0x0B, w 0x09 0x0C, w 0x09 0x0D,
    w 0x09 0x0E, w 0x09 0x0F, w 0x01 0x03, r 0x05 0x04, r 0x22 0x77, r 0x21 0xF5, w 0x02 0xF7, r 0x04 0x60,
    w 0x04 0x60, r 0x0A 0x00, w 0x0A 0x80, w 0x01 0x00, w 0x09 0x00, w 0x09 0x01, w 0x09 0x02, w 0x09 0x03,
    w 0x09 0x04, w 0x09 0x05, w 0x09 0x06, w 0x09 0x07, w 0x09 0x08, w 0x09 0x09, w 0x09 0x0A, w 0x09 0x0B,
    w 0x09 0x0C, w 0x09 0x0D, w 0x09 0x0E, w 0x09 0x0F, w 0x09 0x77, w 0x09 0xF5, w 0x01 0x0C, r 0x0D 0x00,
    w 0x0D 0x80, r 0x04 0x60, r 0x0D 0x00, w 0x0D 0x00, r 0x06 0x00, r 0x0A 0x01, r 0x0C 0x04, r 0x09 0x0A]
   (fun t => replies (.result .ok [] none) t && decide (t.txLen = 18 ∧ t.crc = #v[0x77, 0xF5])) = true := by decide +kernel

/-- P3: no card, nothing of phase 2. -/
theorem test_write_p3 : makes (.write 4 block) rest
   [r 0x05 0x00, w 0x05 0x00, r 0x0A 0x00, w 0x0A 0x80, w 0x09 0xA0, w 0x09 0x04, w 0x01 0x03, r 0x05 0x04,
    r 0x22 0x7B, r 0x21 0xF7, w 0x02 0xF7, r 0x04 0x00, w 0x04 0x00, r 0x0A 0x00, w 0x0A 0x80, w 0x01 0x00,
    w 0x09 0xA0, w 0x09 0x04, w 0x09 0x7B, w 0x09 0xF7, w 0x01 0x0C, r 0x0D 0x00, w 0x0D 0x80, r 0x04 0x43,
    r 0x0D 0x00, w 0x0D 0x00, r 0x06 0x00]
   (replies (.result .noTagError [] none)) = true := by decide +kernel

/-- R141: the interrupt requests read. -/
theorem test_rdreg : makes (.rdreg 0x04 0) rest
   [r 0x04 0x64]
   (replies (.byte 0x64)) = true := by decide +kernel

/-- R105, R71, R304: a byte that is none of the five codes never reaches the command register, nor any byte an unlisted one,
nor one with a driver bit clear the TX-control register. -/
theorem test_wrreg_not_accessed :
    nextIs (fun t => replies (.turnedAway (.illegal .notAccessed)) t && decide (t.events = [] ∧ t.seq = .idle))
      (exec (.wrreg 0x01 0x04) rest) = true ∧
    nextIs (fun t => decide (t.events = [] ∧ t.seq = .idle)) (exec (.wrreg 0x03 0x00) rest) = true ∧
    nextIs (fun t => decide (t.events = [] ∧ t.seq = .idle)) (exec (.wrreg 0x14 0x81) rest) = true := by decide +kernel

/-- R71, R59: no read at an unlisted address, none of the version register. -/
theorem test_rdreg_not_accessed :
    nextIs (fun t => replies (.turnedAway (.illegal .notAccessed)) t && decide (t.events = [] ∧ t.seq = .idle))
      (exec (.rdreg 0x03 0) rest) = true ∧
    nextIs (fun t => decide (t.events = [] ∧ t.seq = .idle)) (exec (.rdreg 0x37 0) rest) = true := by decide +kernel

/-- R142: the Idle code written. -/
theorem test_wrreg : makes (.wrreg 0x01 0x00) rest
   [w 0x01 0x00]
   (fun t => replies .completed t && decide (t.written 0x01 = some 0x00)) = true := by decide +kernel

/-- R104. -/
theorem test_cmd_idle : makes .cmdIdle rest
   [w 0x01 0x00]
   (replies .completed) = true := by decide +kernel

/-- R104. -/
theorem test_cmd_calccrc : makes .cmdCalcCrc rest
   [w 0x01 0x03]
   (replies .completed) = true := by decide +kernel

/-- R104. -/
theorem test_cmd_transceive : makes .cmdTransceive rest
   [w 0x01 0x0C]
   (replies .completed) = true := by decide +kernel

/-- R104. -/
theorem test_cmd_mfauthent : makes .cmdMfAuthent rest
   [w 0x01 0x0E]
   (replies .completed) = true := by decide +kernel

/-- R104. -/
theorem test_cmd_softreset : makes .cmdSoftReset rest
   [w 0x01 0x0F]
   (replies .completed) = true := by decide +kernel

/-- R111: the exchange of SCAN. -/
theorem test_request : makes .request rest
   [w 0x0D 0x07, w 0x02 0xF7, r 0x04 0x00, w 0x04 0x00, r 0x0A 0x00, w 0x0A 0x80, w 0x01 0x00, w 0x09 0x26,
    w 0x01 0x0C, r 0x0D 0x07, w 0x0D 0x87, r 0x04 0x60, r 0x0D 0x07, w 0x0D 0x07, r 0x06 0x00, r 0x0A 0x02,
    r 0x0C 0x00, r 0x09 0x04, r 0x09 0x00]
   (replies (.result .ok [0x04, 0x00] (some 16))) = true := by decide +kernel

/-- R112: the exchange of IDENTIFY. -/
theorem test_anticoll : makes .anticoll rest
   [w 0x0D 0x00, w 0x02 0xF7, r 0x04 0x60, w 0x04 0x60, r 0x0A 0x00, w 0x0A 0x80, w 0x01 0x00, w 0x09 0x93,
    w 0x09 0x20, w 0x01 0x0C, r 0x0D 0x00, w 0x0D 0x80, r 0x04 0x60, r 0x0D 0x00, w 0x0D 0x00, r 0x06 0x00,
    r 0x0A 0x05, r 0x0C 0x00, r 0x09 0xDE, r 0x09 0xAD, r 0x09 0xBE, r 0x09 0xEF, r 0x09 0x22]
   (replies (.result .ok [0xDE, 0xAD, 0xBE, 0xEF, 0x22] (some 40))) = true := by decide +kernel

/-- R113: the exchange of SELECT. -/
theorem test_select_frame : makes (.selectFrame card #v[0xB9, 0x9C]) rest
   [w 0x02 0xF7, r 0x04 0x60, w 0x04 0x60, r 0x0A 0x00, w 0x0A 0x80, w 0x01 0x00, w 0x09 0x93, w 0x09 0x70,
    w 0x09 0xDE, w 0x09 0xAD, w 0x09 0xBE, w 0x09 0xEF, w 0x09 0x22, w 0x09 0xB9, w 0x09 0x9C, w 0x01 0x0C,
    r 0x0D 0x00, w 0x0D 0x80, r 0x04 0x60, r 0x0D 0x00, w 0x0D 0x00, r 0x06 0x00, r 0x0A 0x03, r 0x0C 0x00,
    r 0x09 0x08, r 0x09 0xB6, r 0x09 0xDD]
   (replies (.result .ok [0x08, 0xB6, 0xDD] (some 24))) = true := by decide +kernel

/-- R114: the exchange of AUTHENTICATE. -/
theorem test_authblk_a : makes (.authblkA 4 key uid) rest
   [w 0x02 0x92, r 0x04 0x60, w 0x04 0x60, r 0x0A 0x00, w 0x0A 0x80, w 0x01 0x00, w 0x09 0x60, w 0x09 0x04,
    w 0x09 0xFF, w 0x09 0xFF, w 0x09 0xFF, w 0x09 0xFF, w 0x09 0xFF, w 0x09 0xFF, w 0x09 0xDE, w 0x09 0xAD,
    w 0x09 0xBE, w 0x09 0xEF, w 0x01 0x0E, r 0x04 0x10, r 0x0D 0x00, w 0x0D 0x00, r 0x06 0x00]
   (replies (.result .ok [] (some 0))) = true := by decide +kernel

/-- R114: key B. -/
theorem test_authblk_b : makes (.authblkB 4 key uid) rest
   [w 0x02 0x92, r 0x04 0x60, w 0x04 0x60, r 0x0A 0x00, w 0x0A 0x80, w 0x01 0x00, w 0x09 0x61, w 0x09 0x04,
    w 0x09 0xFF, w 0x09 0xFF, w 0x09 0xFF, w 0x09 0xFF, w 0x09 0xFF, w 0x09 0xFF, w 0x09 0xDE, w 0x09 0xAD,
    w 0x09 0xBE, w 0x09 0xEF, w 0x01 0x0E, r 0x04 0x10, r 0x0D 0x00, w 0x0D 0x00, r 0x06 0x00]
   (replies (.result .ok [] (some 0))) = true := by decide +kernel

/-- R115: the exchange of READ. -/
theorem test_mfread : makes (.mfRead 4 #v[0x26, 0xEE]) rest
   [w 0x02 0xF7, r 0x04 0x10, w 0x04 0x10, r 0x0A 0x00, w 0x0A 0x80, w 0x01 0x00, w 0x09 0x30, w 0x09 0x04,
    w 0x09 0x26, w 0x09 0xEE, w 0x01 0x0C, r 0x0D 0x00, w 0x0D 0x80, r 0x04 0x60, r 0x0D 0x00, w 0x0D 0x00,
    r 0x06 0x00, r 0x0A 0x12, r 0x0C 0x00, r 0x09 0x10, r 0x09 0x11, r 0x09 0x12, r 0x09 0x13, r 0x09 0x14,
    r 0x09 0x15, r 0x09 0x16, r 0x09 0x17, r 0x09 0x18, r 0x09 0x19, r 0x09 0x1A, r 0x09 0x1B, r 0x09 0x1C,
    r 0x09 0x1D, r 0x09 0x1E, r 0x09 0x1F, r 0x09 0x22, r 0x09 0xE8]
   (fun t => decide (t.rxLen = 18 ∧ t.rxBits = 144)) = true := by decide +kernel

/-- R116: phase 1 of WRITE. -/
theorem test_mfwrite : makes (.mfWrite 4 #v[0x7B, 0xF7]) rest
   [w 0x02 0xF7, r 0x04 0x10, w 0x04 0x10, r 0x0A 0x00, w 0x0A 0x80, w 0x01 0x00, w 0x09 0xA0, w 0x09 0x04,
    w 0x09 0x7B, w 0x09 0xF7, w 0x01 0x0C, r 0x0D 0x00, w 0x0D 0x80, r 0x04 0x60, r 0x0D 0x00, w 0x0D 0x00,
    r 0x06 0x00, r 0x0A 0x01, r 0x0C 0x04, r 0x09 0x0A]
   (replies (.result .ok [0x0A] (some 4))) = true := by decide +kernel

/-- R117: phase 2 of WRITE. -/
theorem test_mfwrite_data : makes (.mfWriteData block #v[0x77, 0xF5]) rest
   [w 0x02 0xF7, r 0x04 0x60, w 0x04 0x60, r 0x0A 0x00, w 0x0A 0x80, w 0x01 0x00, w 0x09 0x00, w 0x09 0x01,
    w 0x09 0x02, w 0x09 0x03, w 0x09 0x04, w 0x09 0x05, w 0x09 0x06, w 0x09 0x07, w 0x09 0x08, w 0x09 0x09,
    w 0x09 0x0A, w 0x09 0x0B, w 0x09 0x0C, w 0x09 0x0D, w 0x09 0x0E, w 0x09 0x0F, w 0x09 0x77, w 0x09 0xF5,
    w 0x01 0x0C, r 0x0D 0x00, w 0x0D 0x80, r 0x04 0x60, r 0x0D 0x00, w 0x0D 0x00, r 0x06 0x00, r 0x0A 0x01,
    r 0x0C 0x04, r 0x09 0x0A]
   (replies (.result .ok [0x0A] (some 4))) = true := by decide +kernel

/-- The reference transceiver with the standard card reproduces P1 and P2: 166 transactions (R312). -/
theorem test_reference_p1_p2 :
    (let x := coExec 60 .init (RefChip.powerUp stdCard, State.reset)
     let x := coExec 60 .scan x
     let x := coExec 60 .identify x
     let x := coExec 60 (.select card) x
     let x := coExec 60 (.authenticate false 4 key uid) x
     let x := coExec 60 (.read 4) x
     let x := coExec 60 .deauthenticate x
     x.2.events.length) = 166 := by decide +kernel

/-- P4b: a script that acknowledges phase 1 of WRITE and is silent with an error in phase 2; 10 and 85 transactions. -/
theorem test_reference_p4b :
    (let x := coExec 60 .init (RefChip.powerUp ⟨.inOrder [.answer [0x0A] 4, .silentErr], .standard⟩, State.reset)
     let x := coExec 100 (.write 4 block) x
     decide (x.2.events.length = 95 ∧ x.2.reply = .result .noTagError [] none)) = true := by decide +kernel

/-- A script of MFAuthent answers, one after the other: the card takes the key, then does not. -/
theorem test_reference_auth_in_order :
    (let x := coExec 60 .init (RefChip.powerUp ⟨.always .silent, .inOrder [.ok, .silentErr]⟩, State.reset)
     let x := coExec 60 (.authenticate false 4 key uid) x
     let y := coExec 60 (.authenticate false 4 key uid) x
     decide (x.2.status = .ok ∧ y.2.status = .noTagError)) = true := by decide +kernel

/-! ## Witnesses: for each obligation with hypotheses, a state and operands that meet them together -/

/-- The hypotheses of a conclusion about the next state of an instruction that replies. -/
def resultOf (i : Instr) (s : State) (p : Status → List Byte → Option (BitVec 10) → Bool) : Bool :=
  ran (fun t =>
    match t.reply with
    | .result st data bits => p st data bits
    | .nothing => false
    | .turnedAway _ => false
    | .completed => false
    | .byte _ => false
    | .busError _ _ => false) i s

/-- The tape of a trace gives exactly that trace. -/
def answerable (es : List Event) : Bool := tapeGives (tapeOf es) es

/-- Enough answers for any instruction under small budgets. -/
def plenty : List Answer := List.replicate 300 (.done 0x24)

theorem witness_HostWordIsTheEncodingOfItsInstruction :
    decode Config.default .host [0x06, 0x04] = .ok (.read 0x04) := by rfl

theorem witness_StepRunsTheDecodedInstruction :
    let s : State := { rest with inbox := [⟨.host, [0x01]⟩] }
    s.resetLine = false ∧ s.inbox = ⟨.host, [0x01]⟩ :: [] ∧ decode s.cfg .host [0x01] = .ok .scan :=
  ⟨rfl, rfl, rfl⟩

/-- Each clause: an answer delivered, none delivered, and an engine at rest. -/
theorem witness_StepGoesOnWithTheRunningOperation :
    let s := inRun .scan .framing
    s.resetLine = false ∧ s.inbox = [] ∧ s.seq = .run .scan 4 .framing ∧ s.answers = [] ∧
    ({ s with answers := [.done 0] } : State).answers = .done 0 :: [] ∧ rest.running = false := by decide

/-- Both clauses, at the lowest reserved bit and at the key bit. -/
theorem witness_IllegalOpByteIsRefusedWithoutEffect :
    ({ rest with inbox := [⟨.host, [0x10]⟩] } : State).inbox = ⟨.host, 0x10 :: []⟩ :: [] ∧
    rest.resetLine = false ∧ opReserved 0x10 ≠ 0 ∧ opReserved 0x80 ≠ 0 ∧
    opReserved 0x08 = 0 ∧ opKey 0x08 = true ∧ opField 0x08 ≠ rest.cfg.hostOp.authenticate := by decide

theorem witness_BusyEngineRefusesWithoutEffect :
    (inRun .scan .framing).seq ≠ .idle ∧ (inRun .scan .framing).busFault = false ∧
    ({ rest with seq := .fault, busFault := true } : State).seq ≠ .idle := by decide

theorem witness_AcceptedInstructionWaitsAtItsFirstTransaction :
    State.reset.Accepting ∧ State.reset.cfg.Wf ∧ (Instr.write 4 block).wellFormed State.reset.cfg = true ∧
    (Instr.wrreg 1 0x0C).wellFormed State.reset.cfg = true ∧
    (Instr.rdreg 4 0).wellFormed State.reset.cfg = true := by decide

theorem witness_OperandLatchesHoldTheOperands :
    rest.Accepting ∧ ran (fun _ => true) (.select card) rest = true ∧
    ran State.running (.authenticate true 7 key uid) rest = true ∧
    ran (fun _ => true) (.read 4) rest = true ∧ ran (fun _ => true) (.write 4 block) rest = true ∧
    ran (fun _ => true) .scan rest = true ∧ ran (fun _ => true) .init rest = true ∧
    ran (fun _ => true) (.mfRead 4 #v[1, 2]) rest = true ∧ (Instr.mfRead 4 #v[1, 2]).port ≠ .host ∧
    (Instr.mfRead 4 #v[1, 2]).op.takesKey = false := by decide +kernel

/-- Both clauses: session tracking, and each budget at 0. -/
theorem witness_UnspecifiedConfigurationsStopByName :
    let t : State := { rest with cfg := { small with trackSession := true } }
    let u : State := { rest with cfg := { small with transceiveBudget := 0 } }
    let v : State := { rest with cfg := { small with crcBudget := 0 } }
    t.Accepting ∧ t.cfg.trackSession = true ∧ u.Accepting ∧ u.cfg.budgetsOk = false ∧ u.cfg.trackSession = false ∧
    v.cfg.budgetsOk = false ∧ Instr.scan.port ∈ [Port.host, .frame] ∧
    (Instr.mfRead 4 #v[1, 2]).port ∈ [Port.host, .frame] ∧
    refusedBy .sessionTracking (exec (.read 4) t) = true ∧ refusedBy .zeroBudget (exec .scan u) = true ∧
    refusedBy .zeroBudget (exec (.mfRead 4 #v[1, 2]) v) = true := by decide

theorem witness_EngineResetFromEveryState : (inRun .scan .framing).askReset.resetLine = true := by decide

theorem witness_FailingTransactionTakesBusError :
    let s : State := { inRun .scan .framing with answers := [.failed] }
    s.seq = .run .scan 4 .framing ∧ s.answers = .failed :: [] ∧ s.resetLine = false ∧ s.inbox = [] ∧
    Op.scan.takesKey = false := by decide

/-- A state in which a bus error has been taken. -/
def faulted : State := { rest with seq := .fault, busFault := true }

theorem witness_BusFaultLatchIsSticky :
    (inRun .scan .framing).running = true ∧ faulted.Inv ∧ faulted.busFault = true ∧ faulted.resetLine = false ∧
    nextIs (fun _ => true) (step faulted) = true ∧ faulted.askReset.resetLine = true ∧
    nextIs (fun _ => true) (step faulted.askReset) = true := by decide

theorem witness_EveryStepKeepsTheInvariant :
    (inRun .scan .framing).Inv ∧
    nextIs (fun t => t.running) (step { inRun .scan .framing with answers := [.done 0] }) = true := by decide +kernel

theorem witness_EveryStepKeepsTheRegisterSpaceEqualToItsHistory :
    let s : State := { inRun .scan .framing with events := [.write 1 2], mem := [(1, 2)] }
    s.mem = Memory.replay s.events ∧ nextIs (fun _ => true) (step { s with answers := [.done 0] }) = true := by decide

theorem witness_NoInstructionChangesTheConfiguration :
    nextIs (fun _ => true) (exec .init rest) = true ∧
    ran (fun _ => true) .init { rest with answers := [.done 0] } = true := by decide

theorem witness_OneAnswerIsOneRecordedTransaction :
    (inRun .scan .framing).seq = .run .scan 4 .framing ∧
    nextIs (fun t => t.events.length == 1) (step { inRun .scan .framing with answers := [.done 0] }) = true ∧
    nextIs (fun t => t.events.length == 0) (step rest) = true := by decide

theorem witness_AnswersInPiecesGiveTheSameRun :
    rest.Accepting ∧ ran State.running .init { rest with answers := [.done 0, .done 0] } = true := by decide

theorem witness_CommandRegisterGetsOnlyTheFiveCodes :
    let s : State := { inRun .busTransaction (.busWrite 1 0x0C) with answers := [.done 0] }
    s.Inv ∧ nextIs (fun t => decide (t.events = [.write 1 0x0C])) (step s) = true := by decide +kernel

/-- Each clause; a bus word runs too, and a step from a state that meets the invariant. -/
theorem witness_OnlyTheOperationsRegistersAreAccessed :
    rest.Accepting ∧ ran (fun _ => true) .deauthenticate { rest with answers := plenty } = true ∧
    rest.cfg.reg.mode ∉ Instr.deauthenticate.writesTo rest.cfg ∧ rest.cfg.Wf ∧
    ran (fun t => t.events.length == 1) .scan { rest with answers := [.done 0] } = true ∧
    ran (fun t => t.events.length == 1) (.rdreg 4 0) { rest with answers := [.done 0] } = true ∧
    (inRun .scan .framing).Inv ∧
    nextIs (fun t => t.events.length == 1) (step { inRun .scan .framing with answers := [.done 0] }) = true := by decide +kernel

theorem witness_IdlePrecedesTransceiveAndMfAuthent :
    Instr.scan.port = .host ∧ rest.cfg.Wf ∧ rest.Accepting ∧
    ran (fun t => decide (commandWrites rest.cfg t.events.reverse = [0x00, 0x0C])) .scan
      { rest with answers := plenty } = true := by decide +kernel

/-- Each clause, in two states that differ in all four. -/
theorem witness_HistoryAndGhostStateSteerNothing :
    let s : State := { rest with events := [.read 1 2], mem := [(1, 2)], ghost := .selected, reply := .byte 3 }
    let z : State := { s with cfg := { small with crcBudget := 0 }, inbox := [⟨.host, [0x01]⟩] }
    s.unobserved = rest.unobserved ∧ s ≠ rest ∧ s.Accepting ∧ ran (fun _ => true) .scan s = true ∧
    nextIs (fun _ => true) (step s) = true ∧ refusedBy .zeroBudget (step z) = true := by decide

theorem witness_EveryInstructionEndsWithinItsBounds :
    let s : State := { rest with answers := plenty }
    s.Accepting ∧ s.cfg.Wf ∧ (Instr.write 4 block).wellFormed s.cfg = true ∧ NoFailure s.answers ∧
    (Instr.write 4 block).maxTransactions s.cfg ≤ s.answers.length ∧
    (Instr.mfWriteData block #v[0x77, 0xF5]).maxTransactions s.cfg ≤ s.answers.length := by decide +kernel

/-- Each clause: an access R59 gives the engine at the command register and at another one, and for each reason one it does
not give. -/
theorem witness_WrregAndRdreg :
    rest.Accepting ∧ rest.cfg.writeOk 1 0x0F = true ∧ rest.cfg.writeOk 2 0x10 = true ∧
    rest.cfg.writeOk 1 0x10 = false ∧ rest.cfg.writeOk 3 0 = false ∧ rest.cfg.writeOk 0x14 0x83 = true ∧
    rest.cfg.writeOk 0x14 0x82 = false ∧ rest.cfg.readOk 4 = true ∧
    rest.cfg.readOk 3 = false ∧ ({ rest with answers := [.done 7] } : State).answers = .done 7 :: [] ∧
    ({ rest with answers := [.failed] } : State).answers = .failed :: [] := by decide

theorem witness_EachCommandIsOneWriteOfItsCode :
    rest.Accepting ∧ ({ rest with answers := [.done 7] } : State).answers = .done 7 :: [] := by decide

/-- Both clauses: one driver bit set is not both, both are. -/
theorem witness_InitConfiguresTheChipInOrder :
    rest.Accepting ∧ antennaIsOn small 0x83 = true ∧
    tapeGives (tapeOf (initTrace small ++ [.read 0x14 0x83])) (initTrace small ++ [.read small.reg.txControl 0x83]) ∧
    antennaIsOn small 0x81 = false ∧
    tapeGives (tapeOf (initTrace small ++ [.read 0x14 0x81, .read 0x14 0x80, .write 0x14 0x83]))
      (initTrace small ++ [.read small.reg.txControl 0x81] ++
        setBitsTrace small.reg.txControl 0x80 small.bit.antennaOn) := by decide

/-- Each clause. -/
theorem witness_DeauthenticateClearsTheCryptoBit :
    rest.Accepting ∧ ({ rest with answers := [.done 0x08, .done 0] } : State).answers = .done 0x08 :: .done 0 :: [] ∧
    ({ rest with answers := [.failed] } : State).answers = .failed :: [] ∧
    ({ rest with answers := [.done 0, .failed] } : State).answers = .done 0 :: .failed :: [] := by decide

/-- Each place of the list. -/
theorem witness_HelpersWriteBackTheOtherBits :
    ∀ p ∈ [Point.init .antennaRead, .crc .clearRead, .crc .flushRead, .run .irqRead, .run .flushRead, .run .sendRead,
      .run .clearRead, .deauthRead], (inRun .scan p).seq = .run .scan 4 p := by decide

/-- A Transceive run that ends Ok at the last read that can (R229), and with levels 0, 2 and 255 read. -/
theorem witness_TransceiveEndsOkWithTheResponse :
    let s := inRun .scan (.run .enable)
    s.seq = .run .scan 4 (.run .enable) ∧ Op.scan.runs = .transceive ∧ s.txLen.toNat ≤ 64 ∧
    PollSucceeds s.cfg .transceive [0x40] 0x60 ∧ errorMasked s.cfg 0x04 = false ∧
    noTag s.cfg .transceive 0x60 = false ∧ [(4 : Byte), 0].length = clampLevel 2 ∧ [(9 : Byte)].length = clampLevel 0 ∧
    (List.replicate 64 (9 : Byte)).length = clampLevel 255 ∧
    answerable (startTrace s.cfg .transceive (firstBytes s.txBuf s.txLen.toNat) 0 0 7 ++
        pollTrace s.cfg ([0x40] ++ [0x60]) ++ outcomeTrace s.cfg 7 0x04 ++ responseTrace s.cfg 2 0 [4, 0]) = true := by decide +kernel

theorem witness_MfAuthentEndsOkWithoutData :
    let s := inRun .authenticate (.run .enable)
    s.seq = .run .authenticate 4 (.run .enable) ∧ Op.authenticate.runs = .mfAuthent ∧ s.txLen.toNat ≤ 64 ∧
    PollSucceeds s.cfg .mfAuthent [0x20] 0x10 ∧ errorMasked s.cfg 0x00 = false ∧
    noTag s.cfg .mfAuthent 0x10 = false ∧
    answerable (startTrace s.cfg .mfAuthent (firstBytes s.txBuf s.txLen.toNat) 0 0 7 ++
        pollTrace s.cfg ([0x20] ++ [0x10]) ++ outcomeTrace s.cfg 7 0) = true := by decide +kernel

/-- Exhaustion, the last read showing a terminating bit. -/
theorem witness_ExhaustedPollEndsInProtocolError :
    let s := inRun .scan (.run .enable)
    s.seq = .run .scan 4 (.run .enable) ∧ s.txLen.toNat ≤ 64 ∧ PollExhausted s.cfg Op.scan.runs [0, 0x40] ∧
    (Op.scan.runs = .transceive ∨ Op.scan.runs = .mfAuthent) ∧
    answerable (startTrace s.cfg Op.scan.runs (firstBytes s.txBuf s.txLen.toNat) 0 0 7 ++
        pollTrace s.cfg ([0, 0x40] ++ [0x60])) = true := by decide +kernel

/-- Both outcomes: a masked error bit with the NoTagError predicate, and the predicate alone. -/
theorem witness_ErrorBitsGoBeforeNoTagError :
    let s := inRun .scan (.run .enable)
    s.seq = .run .scan 4 (.run .enable) ∧ s.txLen.toNat ≤ 64 ∧ PollSucceeds s.cfg Op.scan.runs [] 0x03 ∧
    errorMasked s.cfg 0x08 = true ∧ errorMasked s.cfg 0x24 = false ∧ noTag s.cfg Op.scan.runs 0x03 = true ∧
    answerable (startTrace s.cfg Op.scan.runs (firstBytes s.txBuf s.txLen.toNat) 0 0 7 ++
        pollTrace s.cfg ([] ++ [0x03]) ++ outcomeTrace s.cfg 7 0x08) = true := by decide +kernel

/-- Every clause at its boundary. -/
theorem witness_LevelIsClampedAndBitCountFits :
    small.bit.rxLastBits = 0x07 ∧ clampLevel 0 = 1 ∧ clampLevel 1 = 1 ∧ clampLevel 64 = 64 ∧ clampLevel 65 = 64 ∧
    clampLevel 255 = 64 ∧ lastBits small 0xFC = 4 ∧ lastBits small 0xF8 = 0 ∧ bitCount 1 1 = 1 ∧ bitCount 64 0 = 512 ∧
    bitCount 64 7 = 511 := by decide

/-- Both ways out of the CRC poll: the flag seen, and the budget reached. -/
theorem witness_CrcIsReadAndAppendedHoweverThePollLeaves :
    let s := { inRun .read (.crc .clearRead) with txLen := 2 }
    s.seq = .run .read 4 (.crc .clearRead) ∧ s.txLen.toNat ≤ 62 ∧ CrcPollLeaves s.cfg [] 0x04 ∧
    CrcPollLeaves s.cfg [0x00] 0x00 ∧
    answerable (crcTrace s.cfg (firstBytes s.txBuf s.txLen.toNat) 0 0 ([0x00] ++ [0x00]) 0x55 0xAA) = true := by decide +kernel

/-- The answers of the traces above. -/
def okScan : List Answer := tapeOf
  [w 0x0D 0x07, w 0x02 0xF7, r 0x04 0x00, w 0x04 0x00, r 0x0A 0x00, w 0x0A 0x80, w 0x01 0x00, w 0x09 0x26,
   w 0x01 0x0C, r 0x0D 0x07, w 0x0D 0x87, r 0x04 0x60, r 0x0D 0x07, w 0x0D 0x07, r 0x06 0x00, r 0x0A 0x02,
   r 0x0C 0x00, r 0x09 0x04, r 0x09 0x00]

/-- Those of IDENTIFY. -/
def okIdentify : List Answer := tapeOf
  [w 0x0D 0x00, w 0x02 0xF7, r 0x04 0x60, w 0x04 0x60, r 0x0A 0x00, w 0x0A 0x80, w 0x01 0x00, w 0x09 0x93,
   w 0x09 0x20, w 0x01 0x0C, r 0x0D 0x00, w 0x0D 0x80, r 0x04 0x60, r 0x0D 0x00, w 0x0D 0x00, r 0x06 0x00,
   r 0x0A 0x05, r 0x0C 0x00, r 0x09 0xDE, r 0x09 0xAD, r 0x09 0xBE, r 0x09 0xEF, r 0x09 0x22]

/-- SCAN with Ok, and with another status. -/
theorem witness_ScanResults :
    rest.Accepting ∧ rest.cfg.Wf ∧ Instr.scan.port = .host ∧
    resultOf .scan { rest with answers := okScan } (fun st _ _ => decide (st = .ok)) = true ∧
    resultOf .scan { rest with answers := plenty } (fun st _ _ => decide (st ≠ .ok)) = true := by decide +kernel

/-- Each clause: a failure of SCAN in an open session, NoTagError passed on by AUTHENTICATE, an Ok exchange, and a lone frame with Ok and with another status. -/
theorem witness_FailedOperationsReturnNoData :
    let garbled : List Answer := List.replicate 300 (.done 0x01)
    let s : State := { rest with answers := garbled, ghost := .authenticated 4 }
    let noTagTape := tapeOf (startTrace small .mfAuthent ([0x60, 4] ++ key.toList ++ uid.toList) 0 0 0 ++
      pollTrace small ([] ++ [0x03]) ++ outcomeTrace small 0 0)
    s.Accepting ∧ s.ghost = .authenticated 4 ∧
    ran (fun t => decide (t.exchangeStatus .transceive = .protocolError)) .scan s = true ∧
    resultOf .scan s (fun st _ _ => decide (st ≠ .ok)) = true ∧
    resultOf (.authenticate false 4 key uid) { rest with answers := noTagTape }
      (fun st _ _ => decide (st = .noTagError)) = true ∧
    ran (fun t => decide (t.exchangeStatus .mfAuthent = .noTagError)) (.authenticate false 4 key uid)
      { rest with answers := noTagTape } = true ∧
    ran (fun t => decide (t.exchangeStatus .transceive = .ok)) .identify { rest with answers := okIdentify } = true ∧
    resultOf .anticoll { rest with answers := okIdentify }
      (fun st data bits => decide (st = .ok ∧ data = card.toList ∧ bits = some 40)) = true ∧
    resultOf .anticoll { rest with answers := garbled } (fun st _ _ => decide (st ≠ .ok)) = true ∧
    Instr.anticoll.port ≠ .host := by decide +kernel

theorem witness_IdentifyIsOkOnlyOnAValidIdentity :
    rest.Accepting ∧ resultOf .identify { rest with answers := okIdentify } (fun st _ _ => decide (st = .ok)) = true := by
  decide +kernel

/-- Both verdicts. -/
theorem witness_IdentityIsAcceptedExactlyOnItsCheckByte :
    let s : State := { rest with rxLen := 5, rxBuf := putBytes rest.rxBuf 0 [0xDE, 0xAD, 0xBE, 0xEF, 0x22] }
    let u : State := { rest with rxLen := 5, rxBuf := putBytes rest.rxBuf 0 [0xDE, 0xAD, 0xBE, 0xEF, 0x23] }
    s.status = .ok ∧ s.rxLen = 5 ∧ u.status = .ok ∧ u.rxLen = 5 ∧
    byteAt s.rxBuf 4 = byteAt s.rxBuf 0 ^^^ byteAt s.rxBuf 1 ^^^ byteAt s.rxBuf 2 ^^^ byteAt s.rxBuf 3 ∧
    byteAt u.rxBuf 4 ≠ byteAt u.rxBuf 0 ^^^ byteAt u.rxBuf 1 ^^^ byteAt u.rxBuf 2 ^^^ byteAt u.rxBuf 3 := by decide

/-- What a bus that succeeds at the first poll answers to an exchange of a frame, with a response. -/
def answered (frame : List Byte) (lvl ctl : Byte) (rx : List Byte) : List Event :=
  startTrace small .transceive frame 0 0 0 ++ pollTrace small ([] ++ [0x60]) ++ outcomeTrace small 0 0 ++
    responseTrace small lvl ctl rx

/-- What a bus answers to a CRC request. -/
def crcAnswered (payload : List Byte) : List Event := crcTrace small payload 0 0 ([] ++ [0x04]) 0x55 0xAA

/-- The events of SELECT, READ and WRITE on such a bus. -/
def selectEvents : List Event :=
  crcAnswered (selectPayload small card) ++ answered (selectPayload small card ++ [0x55, 0xAA]) 3 0 [8, 1, 2]
def readEvents : List Event :=
  crcAnswered [0x30, 4] ++ answered [0x30, 4, 0x55, 0xAA] 16 0 (List.replicate 16 9)
def writeEvents : List Event :=
  crcAnswered [0xA0, 4] ++ answered [0xA0, 4, 0x55, 0xAA] 1 4 [0x0A] ++
    (crcAnswered block.toList ++ answered (block.toList ++ [0x55, 0xAA]) 1 4 [0x0A])
def authEvents : List Event :=
  startTrace small .mfAuthent ([0x60, 4] ++ key.toList ++ uid.toList) 0 0 0 ++ pollTrace small ([] ++ [0x10]) ++
    outcomeTrace small 0 0

theorem witness_SelectReturnsTheResponseAsReceived :
    resultOf (.select card) { rest with answers := tapeOf selectEvents } (fun st _ _ => decide (st = .ok)) = true := by
  decide +kernel

/-- Both clauses; the second with two keys. -/
theorem witness_AuthenticateReturnsAStatusAndForgetsTheKey :
    let s : State := { rest with answers := tapeOf authEvents }
    s.Accepting ∧ resultOf (.authenticate false 4 key uid) s (fun st _ _ => decide (st = .ok)) = true ∧
    resultOf (.authenticate true 4 key uid) { rest with answers := plenty } (fun st _ _ => decide (st ≠ .ok)) = true ∧
    ran (fun t => !t.running) (.authenticate false 4 (Vector.replicate 6 0) uid) s = true ∧
    ran (fun t => !t.running) (.authblkA 4 key uid) s = true ∧
    ran (fun t => !t.running) (.authblkA 4 (Vector.replicate 6 0) uid) s = true ∧
    ran (fun t => !t.running) (.authblkB 4 key uid) s = true := by decide +kernel

theorem witness_ReadReturnsExactlySixteenBytes :
    resultOf (.read 4) { rest with answers := tapeOf readEvents } (fun st _ _ => decide (st = .ok)) = true := by
  decide +kernel

/-- A step into phase 2, and all four clauses of the second part: inside the phase, to the second phase, out of the operation, and a bus error. -/
theorem witness_PhaseTwoFollowsOnlyAnOkPhaseOne :
    let s := inRun (.write .one) (.run (.drain 1 0))
    let u := inRun (.write .one) (.run .error)
    s.seq = .run (.write .one) 4 (.run (.drain 1 0)) ∧ u.seq = .run (.write .one) 4 (.run .error) ∧
    nextIs (fun t => decide (t.seq = .run (.write .two) 5 (.crc .clearRead)))
      (step { s with answers := [.done 0x0A] }) = true ∧
    (tick u (.done 0)).seq = .run (.write .one) 5 (.run .level) ∧
    (tick s (.done 0x0A)).seq = .run (.write .two) 5 (.crc .clearRead) ∧ (tick u (.done 1)).seq = .idle ∧
    (tick u .failed).seq = .fault := by decide +kernel

theorem witness_WriteIsOkOnlyAfterTheDataFrame :
    resultOf (.write 4 block) { rest with answers := tapeOf writeEvents } (fun st _ _ => decide (st = .ok)) = true := by
  decide +kernel

theorem witness_ScanReportsProtocolErrorAfterExactlyTheBudget :
    rest.Accepting ∧ rest.cfg.budgetsOk = true ∧ PollExhausted rest.cfg .transceive [0, 0x40] ∧
    answerable (.write rest.cfg.reg.bitFraming 0x07 ::
      (startTrace rest.cfg .transceive [rest.cfg.picc.request] 0 0 7 ++ pollTrace rest.cfg ([0, 0x40] ++ [0x60]))) =
      true := by decide +kernel

/-- The hypotheses the end-to-end statements share, on the bus of `answered`. -/
theorem witness_EndToEnd :
    rest.Accepting ∧ rest.cfg.Wf ∧ rest.cfg.ackCheck = false ∧ CrcPollLeaves rest.cfg [] 0x04 ∧
    PollSucceeds rest.cfg .transceive [] 0x60 ∧ PollSucceeds rest.cfg .mfAuthent [] 0x10 ∧
    errorMasked rest.cfg 0 = false ∧ noTag rest.cfg .transceive 0x60 = false ∧
    noTag rest.cfg .mfAuthent 0x10 = false ∧ [(8 : Byte), 1, 2].length = clampLevel 3 ∧
    (List.replicate 16 (9 : Byte)).length = clampLevel 16 ∧ 16 ≤ (List.replicate 16 (9 : Byte)).length ∧
    [(0x0A : Byte)].length = clampLevel 1 := by decide +kernel

theorem witness_ScanReturnsTheAnswerTheBusDelivers :
    answerable (.write small.reg.bitFraming 0x07 :: answered [0x26] 2 0 [4, 0]) = true ∧
    [(4 : Byte), 0].length = clampLevel 2 ∧ lastBits small 0 = 0 ∧ lastBits small 7 = 7 := by decide +kernel

theorem witness_IdentifyReturnsTheIdentityTheBusDelivers :
    answerable (.write small.reg.bitFraming 0x00 :: answered [0x93, 0x20] 5 0 card.toList) = true ∧
    card.toList.length = clampLevel 5 := by decide +kernel

theorem witness_SelectReturnsTheResponseTheBusDelivers : answerable selectEvents = true := by
  decide +kernel

theorem witness_AuthenticateEndsOkOnTheBlockInOrder : answerable authEvents = true := by
  decide +kernel

/-- With the check off; with it on and a right acknowledgment after each phase; and with a wrong one after phase 2. -/
theorem witness_WriteSendsTheCommandThenTheData :
    let checked : Config := { small with ackCheck := true }
    let wrong := crcAnswered [0xA0, 4] ++ answered [0xA0, 4, 0x55, 0xAA] 1 4 [0x0A] ++
      (crcAnswered block.toList ++ answered (block.toList ++ [0x55, 0xAA]) 1 4 [0x0B])
    answerable writeEvents = true ∧ checked.Wf ∧ small.ackCheck = false ∧ Acknowledged checked [0x0A] 4 ∧
    ¬ Acknowledged checked [0x0B] 4 ∧ answerable wrong = true ∧
    resultOf (.write 4 block) { rest with cfg := checked, answers := tapeOf writeEvents }
      (fun st _ _ => decide (st = .ok)) = true ∧
    resultOf (.write 4 block) { rest with cfg := checked, answers := tapeOf wrong }
      (fun st _ _ => decide (st = .protocolError)) = true := by decide +kernel

/-- A response of 16 bytes, and one of 15. -/
theorem witness_ReadReturnsTheBlockTheBusDelivers :
    answerable readEvents = true ∧
    answerable (crcAnswered [0x30, 4] ++ answered [0x30, 4, 0x55, 0xAA] 15 0 (List.replicate 15 9)) = true ∧
    (List.replicate 15 (9 : Byte)).length = clampLevel 15 := by decide +kernel

/-- A frame without a framing write, one with it, and the operand block while it runs. -/
theorem witness_FrameIsStagedByteForByte :
    let s : State := { rest with answers := [.done 0] }
    (Instr.mfWriteData block #v[0x77, 0xF5]).port = .frame ∧ rest.Accepting ∧ s.Accepting ∧
    ran State.running (.mfWriteData block #v[0x77, 0xF5]) rest = true ∧
    s.answers = .done 0 :: [] ∧ ran State.running .anticoll s = true ∧
    ran State.running (.authblkA 4 key uid) s = true := by decide +kernel

/-- Each clause: a masked error bit and the NoTagError predicate, an exhausted poll, and an acknowledgment of 4 bits with
another value and one with the right value and 8 bits. -/
theorem witness_WriteEndsWithItsFirstPhaseWhereThatFails :
    let checked : Config := { small with ackCheck := true }
    let es := crcAnswered [0xA0, 4] ++ startTrace small .transceive [0xA0, 4, 0x55, 0xAA] 0 0 0
    checked.Wf ∧ CrcPollLeaves checked [] 0x04 ∧ PollSucceeds small .transceive [] 0x03 ∧
    errorMasked small 0x08 = true ∧ errorMasked small 0x24 = false ∧ noTag small .transceive 0x03 = true ∧
    answerable (es ++ pollTrace small ([] ++ [0x03]) ++ outcomeTrace small 7 0x08) = true ∧
    PollExhausted small .transceive [0, 0x40] ∧ answerable (es ++ pollTrace small ([0, 0x40] ++ [0x60])) = true ∧
    checked.ackCheck = true ∧ PollSucceeds checked .transceive [] 0x60 ∧
    ¬ Acknowledged checked [0x0B] 4 ∧ ¬ Acknowledged checked [0x0A] 0 ∧
    [(0x0A : Byte)].length = clampLevel 1 ∧
    answerable (crcAnswered [0xA0, 4] ++ answered [0xA0, 4, 0x55, 0xAA] 1 4 [0x0B]) = true := by decide +kernel

/-- Each clause: INIT and DEAUTHENTICATE, a bus word and a command, an operation without a CRC, and a place of
`RunCommand`. -/
theorem witness_OperationsLeaveTheOtherRegisters :
    rest.Accepting ∧ ran (fun t => !t.busFault) .init { rest with answers := plenty } = true ∧
    ran (fun t => !t.busFault) .deauthenticate { rest with answers := plenty } = true ∧
    ran (fun t => !t.busFault) (.rdreg 4 0) { rest with answers := plenty } = true ∧
    ran (fun t => !t.busFault) .cmdIdle { rest with answers := plenty } = true ∧
    ran (fun t => !t.busFault) .scan { rest with answers := okScan } = true ∧
    (inRun .scan (.run .irqRead)).seq = .run .scan 4 (.run .irqRead) ∧ RunPoint.irqRead ≠ .error ∧
    RunPoint.irqRead ≠ .poll ∧ Op.scan.takesKey = false ∧
    (tick (inRun .scan (.run .irqRead)) (.done 0)).seq = .run .scan 5 (.run .irqWrite) := by decide +kernel

end Sys2Proof.Machine.Tests
end

section
/-! SUPPORT. Every instruction is one offer: why it may be refused and what it starts with. What that leaves of the boundary,
what one transaction leaves of it, and the index of the transaction that follows. -/

namespace Sys2Proof.Machine

/-! ## The boundary -/

theorem SameBoundary.refl (s : State) : SameBoundary s s := ⟨rfl, rfl, rfl, rfl, rfl, rfl, rfl⟩

/-! ## An instruction is one offer -/

/-- Why the configuration refuses an instruction: READ and WRITE ask for the session (U9), whatever polls for its budget
(U15), the rest for nothing. `exec_eq_launch` ties it to the machine. -/
def refusalOf (c : Config) : Instr → Option Refusal
  | .read _ => sessionRefusal c
  | .write _ _ => sessionRefusal c
  | .init => none
  | .deauthenticate => none
  | .rdreg _ _ => none
  | .wrreg _ _ => none
  | .cmdIdle => none
  | .cmdCalcCrc => none
  | .cmdTransceive => none
  | .cmdMfAuthent => none
  | .cmdSoftReset => none
  | _ => pollRefusal c

/-- What an accepted instruction does at once: its latches, its first frame, its first place. `exec_eq_launch` ties it to
the machine. -/
def startOf : Instr → State → State
  | .init => startInit
  | .scan => startScan
  | .identify => startIdentify
  | .select sn => startSelect sn
  | .authenticate keyB blk key uid => startAuthenticate keyB blk key uid
  | .deauthenticate => startDeauthenticate
  | .read blk => startRead blk
  | .write blk data => startWrite blk data
  | .rdreg addr _ => startRdreg addr
  | .wrreg addr v => startWrreg addr v
  | .cmdIdle => startCommand .idle
  | .cmdCalcCrc => startCommand .calcCrc
  | .cmdTransceive => startCommand .transceive
  | .cmdMfAuthent => startCommand .mfAuthent
  | .cmdSoftReset => startCommand .softReset
  | .request => startFramed .request
  | .anticoll => startFramed .anticoll
  | .selectFrame sn crc => startFrame (.selectFrame sn crc) .select
  | .authblkA blk key uid => startFrame (.authblkA blk key uid) .auth
  | .authblkB blk key uid => startFrame (.authblkB blk key uid) .auth
  | .mfRead blk crc => startFrame (.mfRead blk crc) .read
  | .mfWrite blk crc => startFrame (.mfWrite blk crc) .write
  | .mfWriteData data crc => startFrame (.mfWriteData data crc) .writeData

/-- Every instruction is offered in the same way; only its refusal and its start are its own. -/
theorem exec_eq_launch (i : Instr) (s : State) : exec i s = launch s (refusalOf s.cfg i) (startOf i) := by
  cases i <;> rfl

/-- An accepting engine stops by name at an instruction that the configuration refuses. -/
theorem exec_refused {i : Instr} {s : State} {r : Refusal} (h : s.Accepting) (hr : refusalOf s.cfg i = some r) :
    exec i s = .refused r := by
  obtain ⟨hs, hb⟩ := h
  simp [exec_eq_launch, launch, hs, hb, hr]

/-- Session tracking refuses READ and WRITE, whatever the budgets (U9). -/
theorem sessionRefusal_tracked {c : Config} (h : c.trackSession = true) : sessionRefusal c = some .sessionTracking := by
  simp [sessionRefusal, h]

/-- Without it READ and WRITE are refused as whatever polls is. -/
theorem sessionRefusal_untracked {c : Config} (h : c.trackSession = false) : sessionRefusal c = pollRefusal c := by
  simp [sessionRefusal, h]

/-- A budget of 0 refuses what polls (U15). -/
theorem pollRefusal_zeroBudget {c : Config} (h : c.budgetsOk = false) : pollRefusal c = some .zeroBudget := by
  simp [pollRefusal, h]

/-- The host operations but INIT and DEAUTHENTICATE, and the card frames, are those that poll. -/
theorem refusalOf_polling {c : Config} {i : Instr} (ht : c.trackSession = false)
    (hp : i.port ∈ [Port.host, .frame]) (hi : i ≠ .init) (hd : i ≠ .deauthenticate) :
    refusalOf c i = pollRefusal c := by
  cases i with
  | init => exact absurd rfl hi
  | deauthenticate => exact absurd rfl hd
  | read blk => exact sessionRefusal_untracked ht
  | write blk data => exact sessionRefusal_untracked ht
  | rdreg addr data => simp [Instr.port] at hp
  | wrreg addr data => simp [Instr.port] at hp
  | cmdIdle => simp [Instr.port] at hp
  | cmdCalcCrc => simp [Instr.port] at hp
  | cmdTransceive => simp [Instr.port] at hp
  | cmdMfAuthent => simp [Instr.port] at hp
  | cmdSoftReset => simp [Instr.port] at hp
  | _ => rfl

/-- Latching, staging and taking the first place touch nothing of the boundary. -/
theorem startOf_boundary (i : Instr) (s : State) : SameBoundary s (startOf i s) := by
  cases i with
  | rdreg addr data =>
    change SameBoundary s (startRdreg addr s)
    obtain ⟨-, h⟩ | ⟨-, h⟩ := startRdreg_cases addr s <;> rw [h] <;> exact SameBoundary.refl s
  | wrreg addr v =>
    change SameBoundary s (startWrreg addr v s)
    obtain ⟨-, h⟩ | ⟨-, h⟩ := startWrreg_cases addr v s <;> rw [h] <;> exact SameBoundary.refl s
  | _ => exact SameBoundary.refl s

/-- An offer, accepted or turned away, touches nothing of the boundary. -/
theorem exec_boundary {i : Instr} {s t : State} (h : exec i s = .next t) : SameBoundary s t := by
  rw [exec_eq_launch] at h
  obtain ⟨-, hl⟩ | ⟨-, -, hl⟩ | ⟨-, x, -, hl⟩ | ⟨-, -, hl⟩ := launch_cases s (refusalOf s.cfg i) (startOf i) <;>
    rw [hl] at h <;> cases h
  · exact SameBoundary.refl s
  · exact SameBoundary.refl s
  · exact startOf_boundary i s

/-! ## One transaction -/

/-- The entry of the history for a transaction and its answer (R95). -/
def Request.entry (r : Request) : Answer → Event
  | .done v => r.event v
  | .failed => r.failure

/-- A transaction adds its own entry to the history. -/
theorem tick_events {s : State} {op : Op} {k : Nat} {p : Point} (h : s.seq = .run op k p) (a : Answer) :
    (tick s a).events = (request s op p).entry a :: s.events := by
  cases a with
  | done v =>
    obtain ⟨-, -, -, -, he, -, -⟩ := advance_boundary (s.record (request s op p) v) op (k + 1) v p
    rw [tick_done h, he]; rfl
  | failed =>
    obtain ⟨-, -, -, -, he, -, -⟩ := releaseKey_boundary (s.takeBusError (request s op p)) op
    rw [tick_failed h, he]; rfl

/-- A transaction touches neither the configuration nor what waits outside the engine. -/
theorem tick_outside (s : State) (a : Answer) :
    (tick s a).cfg = s.cfg ∧ (tick s a).answers = s.answers ∧ (tick s a).inbox = s.inbox ∧
      (tick s a).resetLine = s.resetLine := by
  cases hs : s.seq with
  | run op k p =>
    cases a with
    | done v =>
      obtain ⟨hc, ha, hi, hr, -⟩ := advance_boundary (s.record (request s op p) v) op (k + 1) v p
      rw [tick_done hs]; exact ⟨hc, ha, hi, hr⟩
    | failed =>
      obtain ⟨hc, ha, hi, hr, -⟩ := releaseKey_boundary (s.takeBusError (request s op p)) op
      rw [tick_failed hs]; exact ⟨hc, ha, hi, hr⟩
  | idle => rw [tick_rest (by simp [State.running, hs])]; exact ⟨rfl, rfl, rfl, rfl⟩
  | fault => rw [tick_rest (by simp [State.running, hs])]; exact ⟨rfl, rfl, rfl, rfl⟩

/-- Drawing an answer records nothing. -/
@[simp] theorem State.drawn_events (s : State) : s.drawn.events = s.events := by
  unfold State.drawn; split <;> rfl

/-! ## The index of the following transaction -/

/-- Where an operation runs, its next transaction has the index `k` (R26). -/
def AtIndex (k : Nat) (s : State) : Prop := ∀ op k' p, s.seq = .run op k' p → k' = k

theorem atIndex_of_run {s : State} {op : Op} {k : Nat} {p : Point} (h : s.seq = .run op k p) : AtIndex k s := by
  intro op' k' p' h'
  rw [h] at h'
  cases h'
  rfl

theorem atIndex_of_idle {s : State} (h : s.seq = .idle) (k : Nat) : AtIndex k s := by
  intro op' k' p' h'
  rw [h] at h'
  cases h'

theorem goto_atIndex (s : State) (op : Op) (k : Nat) (p : Point) : AtIndex k (s.goto op k p) := atIndex_of_run rfl

theorem endRun_atIndex (s : State) (op : Op) (k : Nat) : AtIndex k (s.endRun op k) := by
  obtain h | ⟨-, h⟩ := endRun_seq s op k
  · exact atIndex_of_idle h k
  · exact atIndex_of_run h

theorem enterRun_atIndex (s : State) (op : Op) (k : Nat) : AtIndex k (enterRun s op k) := by
  unfold enterRun
  split
  · exact atIndex_of_idle rfl k
  · exact goto_atIndex _ _ _ _

theorem initAdvance_atIndex (s : State) (op : Op) (k : Nat) (v : Byte) (p : InitPoint) :
    AtIndex k (initAdvance s op k v p) := by
  cases p with
  | antennaTest =>
    simp only [initAdvance]
    split
    · exact atIndex_of_idle rfl k
    · exact goto_atIndex _ _ _ _
  | antennaWrite => exact atIndex_of_idle rfl k
  | _ => exact goto_atIndex _ _ _ _

theorem crcPush_atIndex (s : State) (op : Op) (k i : Nat) : AtIndex k (crcPush s op k i) := by
  unfold crcPush
  split <;> exact goto_atIndex _ _ _ _

theorem crcAdvance_atIndex (s : State) (op : Op) (k : Nat) (v : Byte) (p : CrcPoint) :
    AtIndex k (crcAdvance s op k v p) := by
  cases p with
  | flushWrite => exact crcPush_atIndex _ _ _ _
  | push i => exact crcPush_atIndex _ _ _ _
  | poll =>
    simp only [crcAdvance]
    split <;> exact goto_atIndex _ _ _ _
  | resultM => exact enterRun_atIndex _ _ _
  | _ => exact goto_atIndex _ _ _ _

theorem runPush_atIndex (s : State) (op : Op) (k i : Nat) : AtIndex k (runPush s op k i) := by
  unfold runPush
  split <;> exact goto_atIndex _ _ _ _

theorem afterPoll_atIndex (s : State) (op : Op) (k : Nat) : AtIndex k (afterPoll s op k) := by
  unfold afterPoll
  split
  · exact endRun_atIndex _ _ _
  · split <;> exact goto_atIndex _ _ _ _

theorem afterError_atIndex (s : State) (op : Op) (k : Nat) : AtIndex k (afterError s op k) := by
  unfold afterError
  split
  · exact endRun_atIndex _ _ _
  · split
    · exact endRun_atIndex _ _ _
    · split
      · exact goto_atIndex _ _ _ _
      · exact endRun_atIndex _ _ _

theorem afterDrain_atIndex (s : State) (op : Op) (k len i : Nat) : AtIndex k (afterDrain s op k len i) := by
  unfold afterDrain
  split
  · exact goto_atIndex _ _ _ _
  · exact endRun_atIndex _ _ _

theorem runAdvance_atIndex (s : State) (op : Op) (k : Nat) (v : Byte) (p : RunPoint) :
    AtIndex k (runAdvance s op k v p) := by
  cases p with
  | idle => exact runPush_atIndex _ _ _ _
  | push i => exact runPush_atIndex _ _ _ _
  | start =>
    simp only [runAdvance]
    split <;> exact goto_atIndex _ _ _ _
  | poll => exact afterPoll_atIndex _ _ _
  | error => exact afterError_atIndex _ _ _
  | drain len i => exact afterDrain_atIndex _ _ _ _ _
  | _ => exact goto_atIndex _ _ _ _

/-- A completed transaction leads to the index handed on, or ends the operation. -/
theorem advance_atIndex (s : State) (op : Op) (k : Nat) (v : Byte) (p : Point) : AtIndex k (advance s op k v p) := by
  cases p with
  | init q => exact initAdvance_atIndex _ _ _ _ _
  | framing => exact enterRun_atIndex _ _ _
  | crc q => exact crcAdvance_atIndex _ _ _ _ _
  | run q => exact runAdvance_atIndex _ _ _ _ _
  | deauthRead => exact goto_atIndex _ _ _ _
  | _ => exact atIndex_of_idle rfl k

end Sys2Proof.Machine
end

section
/-! PROOF. Steps are transactions (R16, R26, R350), each recorded once, and the configurations outside the spec stop by name. -/

namespace Sys2Proof.Machine

/-! ## Steps over a tape -/

/-- A step of a running engine consumes the oldest answer. -/
theorem step_deliver {s : State} {a : Answer} {as : List Answer} (hr : s.resetLine = false) (hi : s.inbox = [])
    (hrun : s.running = true) (ha : s.answers = a :: as) : step s = .next (tick (s.withTape as) a) := by
  obtain ⟨hnext, hdrawn⟩ := drawn_cons ha
  rw [step_goOn hr hi, proceed_run hrun, hnext, hdrawn]
  rfl

/-- With nothing delivered a step of a running engine draws its answer freely. -/
theorem step_draw {s : State} (hr : s.resetLine = false) (hi : s.inbox = []) (hrun : s.running = true)
    (ha : s.answers = []) : step s = .next (tick { s with fresh := s.fresh + 1 } s.nextAnswer) := by
  rw [step_goOn hr hi, proceed_run hrun, drawn_nil ha]

/-- A step of an engine at rest changes nothing. -/
theorem step_rest {s : State} (hr : s.resetLine = false) (hi : s.inbox = []) (h : s.running = false) :
    step s = .next s := by
  rw [step_goOn hr hi, proceed_rest h]

theorem steps_succ_of_next {s t : State} (h : step s = .next t) (n : Nat) : steps (n + 1) s = steps n t := by
  simp only [steps, h]

/-- An engine at rest stays at rest over any number of steps. -/
theorem steps_rest {s : State} (hr : s.resetLine = false) (hi : s.inbox = []) (h : s.running = false) :
    ∀ n, steps n s = .next s
  | 0 => rfl
  | n + 1 => by rw [steps_succ_of_next (step_rest hr hi h), steps_rest hr hi h n]

/-- As many steps as there are answers on the tape are the run over that tape. -/
theorem steps_withTape (as : List Answer) {s : State} (hr : s.resetLine = false) (hi : s.inbox = []) :
    steps as.length (s.withTape as) = .next (drive as s) := by
  induction as generalizing s with
  | nil => rfl
  | cons a as ih =>
    cases hrun : s.running with
    | false => rw [steps_rest (by exact hr) (by exact hi) (by exact hrun), drive_rest hrun]; rfl
    | true =>
      obtain ⟨-, -, hi', hr'⟩ := tick_outside s a
      have hstep : step (s.withTape (a :: as)) = .next ((tick s a).withTape as) := by
        rw [step_deliver (by exact hr) (by exact hi) (by exact hrun) rfl, State.withTape_withTape, tick_withTape]
      rw [List.length_cons, steps_succ_of_next hstep, drive_cons hrun]
      exact ih (hr'.trans hr) (hi'.trans hi)

/-- Settles O5: a step with nothing offered is `proceed`, and the run is reached by induction over the tape. -/
theorem stepGoesOnWithTheRunningOperation : Obligations.StepGoesOnWithTheRunningOperation := by
  intro s hr hi
  refine ⟨fun op k p a rest hs ha => ?_, fun op k p hs ha => ⟨s.nextAnswer, ?_⟩, step_rest hr hi, ?_⟩
  · rw [step_deliver hr hi ((running_iff s).2 ⟨op, k, p, hs⟩) ha, tick_run (by exact hs)]
    rfl
  · rw [step_draw hr hi ((running_iff s).2 ⟨op, k, p, hs⟩) ha, tick_run (by exact hs)]
  · exact steps_withTape s.answers hr hi

/-! ## One answer, one entry -/

/-- The next transaction of a running operation adds exactly one entry to the history. -/
theorem proceed_records_one {s : State} (h : s.running = true) : ∃ e, s.proceed.events = e :: s.events := by
  obtain ⟨op, k, p, hs⟩ := (running_iff s).1 h
  refine ⟨(request s.drawn op p).entry s.nextAnswer, ?_⟩
  rw [proceed_run h, tick_events (by rw [State.drawn_seq, hs]), State.drawn_events]

/-- A step adds one entry where an operation runs and neither a reset nor an offer stands before it, else none. -/
theorem step_records {s t : State} (h : step s = .next t) :
    ∃ new, t.events = new ++ s.events ∧
      new.length = if s.running = true ∧ s.resetLine = false ∧ s.inbox = [] then 1 else 0 := by
  obtain ⟨hr, hstep⟩ | ⟨-, o, rest, i, hi, -, hstep⟩ | ⟨-, o, rest, r, hi, -, hstep⟩ | ⟨hr, hi, hstep⟩ := step_cases s
  · cases hstep.symm.trans h
    exact ⟨[], rfl, by simp [hr]⟩
  · obtain ⟨-, -, -, -, he, -, -⟩ := exec_boundary (hstep.symm.trans h)
    exact ⟨[], he, by simp [hi]⟩
  · cases hstep.symm.trans h
    exact ⟨[], rfl, by simp [hi]⟩
  · cases hstep.symm.trans h
    cases hrun : s.running with
    | true =>
      obtain ⟨e, he⟩ := proceed_records_one hrun
      exact ⟨[e], he, by simp [hr, hi]⟩
    | false => exact ⟨[], by rw [proceed_rest hrun]; rfl, by simp⟩

/-- Settles O19: the transaction records itself before the sequence goes on, and going on touches nothing of the
boundary; a step makes a transaction in one of its four cases only. -/
theorem oneAnswerIsOneRecordedTransaction : Obligations.OneAnswerIsOneRecordedTransaction := by
  refine ⟨fun s op k p v hs => ?_, fun s t h => step_records h⟩
  obtain ⟨hc, ha, hi, -, he, hm, hb⟩ := advance_boundary (s.record (request s op p) v) op (k + 1) v p
  rw [tick_done hs]
  exact ⟨he, hm, hc, ha, hi, hb, advance_atIndex _ _ _ _ _⟩

/-! ## Configurations outside the spec -/

/-- Settles O10: each clause is the refusal of its instructions under that configuration. -/
theorem unspecifiedConfigurationsStopByName : Obligations.UnspecifiedConfigurationsStopByName := by
  refine ⟨fun s b d h ht => ⟨?_, ?_⟩, fun s i h hb ht hp hi hd => ?_⟩
  · exact exec_refused h (sessionRefusal_tracked ht)
  · exact exec_refused h (sessionRefusal_tracked ht)
  · exact exec_refused h ((refusalOf_polling ht hp hi hd).trans (pollRefusal_zeroBudget hb))

end Sys2Proof.Machine
end

section
/-! SUPPORT. What offering an instruction leads to, and properties of every state that an instruction can reach. -/

namespace Sys2Proof.Machine

/-- An offer that is not refused by name is turned away, or accepted by an engine at rest. -/
theorem exec_cases {i : Instr} {s t : State} (h : exec i s = .next t) :
    (∃ why, t = s.turnAway why) ∨ (s.Accepting ∧ t = startOf i s) := by
  rw [exec_eq_launch] at h
  obtain ⟨-, hl⟩ | ⟨-, -, hl⟩ | ⟨-, x, -, hl⟩ | ⟨ha, -, hl⟩ := launch_cases s (refusalOf s.cfg i) (startOf i) <;>
    rw [hl] at h <;> cases h
  · exact .inl ⟨_, rfl⟩
  · exact .inl ⟨_, rfl⟩
  · exact .inr ⟨ha, rfl⟩

/-- An accepting engine turns nothing away for its own sake. -/
theorem exec_accepting {i : Instr} {s t : State} (ha : s.Accepting) (h : exec i s = .next t) : t = startOf i s := by
  rw [exec_eq_launch] at h
  obtain ⟨hb, -⟩ | ⟨-, hs, -⟩ | ⟨-, x, -, hl⟩ | ⟨-, -, hl⟩ := launch_cases s (refusalOf s.cfg i) (startOf i)
  · simp [ha.2] at hb
  · exact absurd ha.1 hs
  · rw [hl] at h; cases h
  · rw [hl] at h; cases h; rfl

/-- With the bus fault latched every instruction is turned away (R292). -/
theorem exec_busFault {s : State} (h : s.busFault = true) (i : Instr) : exec i s = .next (s.turnAway .busFault) := by
  simp [exec_eq_launch, launch, h]

/-- A property of the start that every transaction keeps, and that does not look at the tape, holds where a run leads. -/
theorem runs_induction {i : Instr} {s t : State} {P : State → Prop} (h : Runs i s t) (start : P (startOf i s))
    (tick : ∀ u a, u.running = true → P u → P (tick u a)) (tape : ∀ u as, P u → P { u with answers := as }) : P t := by
  obtain ⟨ha, u, hu, rfl⟩ := h
  cases exec_accepting ha hu
  exact drive_induction tick tape _ _ start

/-- So what an instruction leads to is an offer turned away, or has such a property. -/
theorem reaches_induction {i : Instr} {s t : State} {P : State → Prop} (h : Reaches i s t)
    (start : s.Accepting → P (startOf i s)) (tick : ∀ u a, u.running = true → P u → P (tick u a))
    (tape : ∀ u as, P u → P { u with answers := as }) : (∃ why, t = s.turnAway why) ∨ P t := by
  rcases h with h | h
  · obtain hturned | ⟨ha, rfl⟩ := exec_cases h
    · exact .inl hturned
    · exact .inr (start ha)
  · exact .inr (runs_induction h (start h.1) tick tape)

end Sys2Proof.Machine
end

section
/-! PROOF. The invariant (R21, R22, R26, R27): every way a state can change keeps it, transaction by transaction and place by
place. -/

namespace Sys2Proof.Machine

/-! ## The invariant without the place -/

/-- What the invariant asks of an engine without a bus error, its place in the sequence apart. -/
abbrev State.Fit (s : State) : Prop :=
  s.cfg.Wf ∧ s.busFault = false ∧ s.txLen.toNat ≤ 64 ∧ s.rxLen.toNat ≤ 64 ∧ s.rxBits.toNat ≤ 512 ∧ s.mem.Wf

theorem State.Fit.inv {s : State} (h : s.Fit) (hf : s.seq ≠ .fault) (hs : s.seqOk = true) : s.Inv := by
  obtain ⟨hw, hb, ht, hl, hn, hm⟩ := h
  exact ⟨hw, by simp [hb, hf], ht, hl, hn, hm, hs⟩

theorem State.Fit.inv_idle {s : State} (h : s.Fit) (hs : s.seq = .idle) : s.Inv :=
  h.inv (by simp [hs]) (by simp [State.seqOk, hs])

theorem State.Fit.inv_goto {s : State} (h : s.Fit) {op : Op} {p : Point} (hp : placeOk s op p = true) (k : Nat) :
    (s.goto op k p).Inv :=
  State.Fit.inv (s := s.goto op k p) h (by simp) hp

theorem State.Fit.inv_enterOp {s : State} (h : s.Fit) {op : Op} {p : Point} (hp : placeOk s op p = true) :
    (s.enterOp op p).Inv :=
  State.Fit.inv (s := s.enterOp op p) h (by simp) hp

/-- A running engine of the invariant is fit, at a consistent place. -/
theorem State.Inv.fit {s : State} {op : Op} {k : Nat} {p : Point} (h : s.Inv) (hs : s.seq = .run op k p) :
    s.Fit ∧ placeOk s op p = true := by
  obtain ⟨hw, hb, ht, hl, hn, hm, hq⟩ := h
  refine ⟨⟨hw, ?_, ht, hl, hn, hm⟩, ?_⟩
  · simpa [hs] using hb
  · simpa only [State.seqOk, hs] using hq

/-- An engine of the invariant at rest is fit. -/
theorem State.Inv.fit_idle {s : State} (h : s.Inv) (hs : s.seq = .idle) : s.Fit := by
  obtain ⟨hw, hb, ht, hl, hn, hm, -⟩ := h
  exact ⟨hw, by simpa [hs] using hb, ht, hl, hn, hm⟩

/-! ## Places -/

/-- The payload whose CRC the operation asks for is staged (R262). -/
abbrev PayloadStaged (s : State) (op : Op) : Prop := op.crcPayload ≠ 0 ∧ s.txLen.toNat = op.crcPayload

/-- The frame that the operation exchanges is staged (R224). -/
abbrev FrameStaged (s : State) (op : Op) : Prop := op.exchanges = true ∧ s.txLen.toNat = op.frameLength

/-- A place of `calculateCRC` is consistent with the staged payload. -/
theorem placeOk_crc (s : State) (op : Op) (q : CrcPoint) :
    placeOk s op (.crc q) = true ↔
      PayloadStaged s op ∧ crcPlaceOk s q = true := by
  simp [placeOk]

/-- A place of `RunCommand` is consistent with the staged frame. -/
theorem placeOk_run (s : State) (op : Op) (q : RunPoint) :
    placeOk s op (.run q) = true ↔
      FrameStaged s op ∧ runPlaceOk s op q = true := by
  simp [placeOk]

/-- A frame is at most 18 bytes long (R117). -/
theorem Op.frameLength_le (op : Op) : op.frameLength ≤ 18 := by
  cases op with
  | write ph => cases ph <;> decide
  | exchange kind => cases kind <;> decide
  | _ => decide

/-- An operation that asks for a CRC sends its payload with the two CRC bytes behind (R270). -/
theorem Op.frameLength_of_crcPayload {op : Op} (h : op.crcPayload ≠ 0) :
    op.exchanges = true ∧ op.frameLength = op.crcPayload + 2 := by
  cases op with
  | write ph => cases ph <;> decide
  | select => decide
  | read => decide
  | _ => exact absurd rfl h

/-- An operation that starts with a framing write goes on with the exchange of its frame (R181, R186, R111, R112). -/
theorem Op.framedFrame_length {op : Op} (h : op.frames = true) (c : Config) :
    op.exchanges = true ∧ (op.framedFrame c).length = op.frameLength := by
  cases op with
  | scan => exact ⟨rfl, rfl⟩
  | identify => exact ⟨rfl, rfl⟩
  | exchange kind =>
    cases kind with
    | request => exact ⟨rfl, rfl⟩
    | anticoll => exact ⟨rfl, rfl⟩
    | _ => cases h
  | _ => cases h

/-! ## Values within their ranges -/

/-- `E.TXLEN` is the number of bytes staged. -/
theorem stage_txLen_toNat {s : State} {bytes : List Byte} {n : Nat} (h : bytes.length = n) (hn : n ≤ 18) :
    (s.stage bytes).txLen.toNat = n := by
  rw [State.stage_txLen, BitVec.toNat_ofNat, h]
  omega

/-- Staging a frame keeps an engine fit. -/
theorem State.Fit.stage {s : State} (h : s.Fit) {bytes : List Byte} {n : Nat} (hl : bytes.length = n) (hn : n ≤ 18) :
    (s.stage bytes).Fit := by
  obtain ⟨hw, hb, -, hr, hx, hm⟩ := h
  exact ⟨hw, hb, by rw [stage_txLen_toNat hl hn]; omega, hr, hx, hm⟩

/-- An unspecified length is within the range of R21. -/
theorem freeLen_le (k : Nat) : (BitVec.ofNat 7 (Config.freeLen k).val).toNat ≤ 64 := by
  rw [BitVec.toNat_ofNat]
  exact le_trans (Nat.mod_le _ _) (Nat.le_of_lt_succ (Config.freeLen k).isLt)

/-- So is an unspecified bit count. -/
theorem freeBits_le (k : Nat) : (BitVec.ofNat 10 (Config.freeBits k).val).toNat ≤ 512 := by
  rw [BitVec.toNat_ofNat]
  exact le_trans (Nat.mod_le _ _) (Nat.le_of_lt_succ (Config.freeBits k).isLt)

/-- The valid bits of the last byte are at most the mask that selects them (R49). -/
theorem lastBits_le {c : Config} (h : c.Wf) (control : Byte) : lastBits c control ≤ 7 := by
  obtain ⟨-, -, -, -, -, -, -, -, hm, -⟩ := h
  rw [lastBits, BitVec.toNat_and]
  exact le_trans Nat.and_le_right hm

/-- The bit count of `len` bytes ends in the last of them (R233). -/
theorem bitCount_bounds {len r : Nat} (h : 1 ≤ len) (hr : r ≤ 7) :
    (len - 1) * 8 < bitCount len r ∧ bitCount len r ≤ len * 8 := by
  unfold bitCount
  split <;> omega

/-- Budgets of at least 1 (R9). -/
theorem Config.Wf.budgets {c : Config} (h : c.Wf) : c.transceiveBudget ≠ 0 ∧ c.crcBudget ≠ 0 := by
  obtain ⟨-, -, -, -, -, -, -, hb, -, -⟩ := h
  simpa [Config.budgetsOk] using hb

/-! ## The end of an operation -/

theorem State.Fit.finishUnit {s : State} (h : s.Fit) : s.finishUnit.Inv := by
  obtain ⟨hw, hb, ht, -, -, hm⟩ := h
  exact State.Fit.inv_idle (s := s.finishUnit) ⟨hw, hb, ht, freeLen_le _, freeBits_le _, hm⟩ rfl

theorem State.Fit.finishFailed {s : State} (h : s.Fit) (st : Status) (bits : Option (BitVec 10)) (g : Ghost) :
    (s.finishFailed st bits g).Inv := by
  obtain ⟨hw, hb, ht, -, -, hm⟩ := h
  exact State.Fit.inv_idle (s := s.finishFailed st bits g) ⟨hw, hb, ht, Nat.zero_le _, Nat.zero_le _, hm⟩ rfl

theorem State.Fit.finishOk {s : State} (h : s.Fit) (data : List Byte) (bits : Option (BitVec 10)) (g : Ghost) :
    (s.finishOk data bits g).Inv :=
  State.Fit.inv_idle (s := s.finishOk data bits g) h rfl

theorem State.Fit.finishLone {s : State} (h : s.Fit) (r : Reply) : (s.finishLone r).Inv :=
  State.Fit.inv_idle (s := s.finishLone r) h rfl

theorem State.Inv.releaseKey {s : State} (h : s.Inv) (op : Op) : (s.releaseKey op).Inv := by
  unfold State.releaseKey
  split <;> exact h

/-- A first phase that ends Ok goes on with the 16 data bytes and their CRC (R213). -/
theorem State.Fit.endWrite {s : State} (h : s.Fit) (k : Nat) (ph : Phase) : (s.endWrite k ph).Inv := by
  cases ph with
  | one =>
    simp only [State.endWrite]
    split
    · have hlen : s.data.toList.length = 16 := by simp
      refine (h.stage hlen (by omega)).inv_goto ((placeOk_crc _ _ _).2 ⟨⟨by decide, ?_⟩, rfl⟩) k
      exact stage_txLen_toNat hlen (by decide)
    · exact h.finishFailed _ _ _
  | two =>
    simp only [State.endWrite]
    split
    · exact h.finishOk _ _ _
    · exact h.finishFailed _ _ _

/-- The end of an exchange keeps the invariant, whatever the verdict. -/
theorem State.Fit.endRun {s : State} (h : s.Fit) (op : Op) (k : Nat) : (s.endRun op k).Inv := by
  cases op with
  | scan =>
    simp only [State.endRun, State.endScan]
    split
    · exact h.finishOk _ _ _
    · exact h.finishFailed _ _ _
  | identify =>
    simp only [State.endRun, State.endIdentify]
    split
    · split
      · exact h.finishOk _ _ _
      · exact h.finishFailed _ _ _
    · exact h.finishFailed _ _ _
  | select =>
    simp only [State.endRun, State.endSelect]
    split
    · exact h.finishOk _ _ _
    · exact h.finishFailed _ _ _
  | authenticate =>
    refine State.Inv.releaseKey (s := s.authVerdict) ?_ .authenticate
    unfold State.authVerdict
    split
    · exact h.finishOk _ _ _
    · exact h.finishFailed _ _ _
  | read =>
    simp only [State.endRun, State.endRead]
    split
    · split
      · exact h.finishOk _ _ _
      · exact h.finishFailed _ _ _
    · exact h.finishFailed _ _ _
  | write ph => exact h.endWrite k ph
  | exchange kind =>
    refine State.Inv.releaseKey (s := s.exchangeVerdict) ?_ (.exchange kind)
    unfold State.exchangeVerdict
    split
    · exact h.finishOk _ _ _
    · exact h.finishFailed _ _ _
  | _ => exact h.finishLone _

/-! ## Where a completed transaction leads -/

theorem State.Fit.initAdvance {s : State} (h : s.Fit) (k : Nat) (v : Byte) (q : InitPoint) :
    (initAdvance s .init k v q).Inv := by
  cases q with
  | antennaTest =>
    simp only [Machine.initAdvance]
    split
    · exact State.Fit.finishUnit (s := { s with tmp := v }) h
    · exact State.Fit.inv_goto (s := { s with tmp := v }) h rfl k
  | antennaRead => exact State.Fit.inv_goto (s := { s with tmp := v }) h rfl k
  | antennaWrite => exact h.finishUnit
  | _ => exact h.inv_goto rfl k

/-- `RunCommand` is entered with the frame of its operation. -/
theorem State.Fit.enterRun {s : State} (h : s.Fit) {op : Op}
    (hop : FrameStaged s op) (k : Nat) : (enterRun s op k).Inv := by
  unfold Machine.enterRun
  split
  · exact h.finishLone _
  · exact h.inv_goto ((placeOk_run _ _ _).2 ⟨hop, rfl⟩) k

section
variable {s : State} {op : Op}

/-- The next place of the CRC push loop lies within the payload. -/
theorem State.Fit.crcPush (h : s.Fit) (hop : PayloadStaged s op) (k i : Nat) :
    (crcPush s op k i).Inv := by
  unfold Machine.crcPush
  split
  · rename_i hi
    exact h.inv_goto ((placeOk_crc _ _ _).2 ⟨hop, by simpa [crcPlaceOk] using hi⟩) k
  · exact h.inv_goto ((placeOk_crc _ _ _).2 ⟨hop, rfl⟩) k

/-- After the two CRC bytes the frame is complete (R270). -/
theorem appendCrc_txLen_toNat (hop : PayloadStaged s op) :
    s.appendCrc.txLen.toNat = op.frameLength := by
  obtain ⟨hc, ht⟩ := hop
  obtain ⟨-, hf⟩ := Op.frameLength_of_crcPayload hc
  have hle := op.frameLength_le
  rw [State.appendCrc_txLen, BitVec.toNat_add, ht, hf]
  exact Nat.mod_eq_of_lt (show op.crcPayload + 2 < 128 by omega)

theorem State.Fit.crcAdvance (h : s.Fit) (hop : PayloadStaged s op) (k : Nat) (v : Byte)
    (q : CrcPoint) : (crcAdvance s op k v q).Inv := by
  have next {s' : State} (h' : s'.Fit) (ht : s'.txLen = s.txLen) {q' : CrcPoint} (hq : crcPlaceOk s' q' = true) :
      (s'.goto op k (.crc q')).Inv := h'.inv_goto ((placeOk_crc _ _ _).2 ⟨by rwa [PayloadStaged, ht], hq⟩) k
  cases q with
  | clearRead => exact next (s' := { s with tmp := v }) h rfl rfl
  | flushRead => exact next (s' := { s with tmp := v }) h rfl rfl
  | flushWrite => exact h.crcPush hop k 0
  | push i => exact h.crcPush hop k (i + 1)
  | start =>
    exact next (s' := { s with cnt := s.cfg.crcBudget }) h rfl (by simpa [crcPlaceOk] using (Config.Wf.budgets h.1).2)
  | poll =>
    simp only [Machine.crcAdvance]
    split
    · exact next (s' := { s with irqV := v, cnt := s.cnt - 1 }) h rfl rfl
    · rename_i hcnt
      refine next (s' := { s with irqV := v, cnt := s.cnt - 1 }) h rfl ?_
      simpa [crcPlaceOk] using fun h0 => hcnt (.inl h0)
  | resultL => exact next (s' := { s with crc := putBytes s.crc 0 [v] }) h rfl rfl
  | resultM =>
    obtain ⟨hw, hb, -, hl, hn, hm⟩ := h
    have ht : (State.appendCrc { s with crc := putBytes s.crc 1 [v] }).txLen.toNat = op.frameLength :=
      appendCrc_txLen_toNat (s := { s with crc := putBytes s.crc 1 [v] }) hop
    have hle : op.frameLength ≤ 18 := op.frameLength_le
    exact State.Fit.enterRun (s := State.appendCrc { s with crc := putBytes s.crc 1 [v] })
      ⟨hw, hb, by omega, hl, hn, hm⟩ ⟨(Op.frameLength_of_crcPayload hop.1).1, ht⟩ k
  | clearWrite => exact next h rfl rfl

/-- The next place of the staging loop lies within the frame. -/
theorem State.Fit.runPush (h : s.Fit) (hop : FrameStaged s op) (k i : Nat) :
    (runPush s op k i).Inv := by
  unfold Machine.runPush
  split
  · rename_i hi
    exact h.inv_goto ((placeOk_run _ _ _).2 ⟨hop, by simpa [runPlaceOk] using hi⟩) k
  · exact h.inv_goto ((placeOk_run _ _ _).2 ⟨hop, rfl⟩) k

/-- A result without data is within its ranges. -/
theorem State.Fit.noData (h : s.Fit) (st : Status) : (s.noData st).Fit := by
  obtain ⟨hw, hb, ht, -, -, hm⟩ := h
  exact ⟨hw, hb, ht, Nat.zero_le _, Nat.zero_le _, hm⟩

/-- The poll is left for step 3 with a counter that is not 0 (R228). -/
theorem State.Fit.afterPoll (h : s.Fit) (hop : FrameStaged s op) (k : Nat) :
    (afterPoll s op k).Inv := by
  unfold Machine.afterPoll
  split
  · exact (h.noData _).endRun op k
  · rename_i hcnt
    split
    · exact h.inv_goto ((placeOk_run _ _ _).2 ⟨hop, by simpa [runPlaceOk] using hcnt⟩) k
    · exact h.inv_goto ((placeOk_run _ _ _).2 ⟨hop, by simpa [runPlaceOk] using hcnt⟩) k

/-- Only Transceive with status Ok goes on to step 4 (R241). -/
theorem State.Fit.afterError (h : s.Fit) (hop : FrameStaged s op) (k : Nat) :
    (afterError s op k).Inv := by
  unfold Machine.afterError
  split
  · exact (h.noData _).endRun op k
  · split
    · exact (h.noData _).endRun op k
    · split
      · rename_i hr
        exact State.Fit.inv_goto (s := { s with status := .ok }) h
          ((placeOk_run _ _ _).2 ⟨hop, by simp [runPlaceOk, hr]⟩) k
      · exact (h.noData _).endRun op k

/-- The drain starts with a level of 1 to 64 and a bit count that ends in the last byte (R233). -/
theorem State.Fit.afterControl (h : s.Fit) (hop : FrameStaged s op)
    (hr : op.runs = .transceive ∧ s.status = .ok) (k : Nat) (lvl control : Byte) :
    (afterControl s op k lvl control).Inv := by
  obtain ⟨hw, hb, ht, hl, -, hm⟩ := h
  obtain ⟨h1, h64⟩ := clampLevel_bounds lvl
  obtain ⟨hlo, hhi⟩ := bitCount_bounds h1 (lastBits_le hw control)
  have hbits : (BitVec.ofNat 10 (bitCount (clampLevel lvl) (lastBits s.cfg control))).toNat =
      bitCount (clampLevel lvl) (lastBits s.cfg control) := by
    rw [BitVec.toNat_ofNat]; exact Nat.mod_eq_of_lt (by omega)
  refine State.Fit.inv_goto
    (s := { s with rxBits := BitVec.ofNat 10 (bitCount (clampLevel lvl) (lastBits s.cfg control)) })
    ⟨hw, hb, ht, hl, by rw [hbits]; omega, hm⟩ ((placeOk_run _ _ _).2 ⟨hop, ?_⟩) k
  simp only [runPlaceOk, hbits, hr, Bool.and_eq_true, decide_eq_true_eq, beq_self_eq_true, true_and, and_true]
  omega

/-- The drain goes on to the next byte, or ends with the level as `E.RXLEN` (R234). -/
theorem State.Fit.afterDrain (h : s.Fit) (hop : FrameStaged s op) {len i : Nat}
    (hd : runPlaceOk s op (.drain len i) = true) (k : Nat) : (afterDrain s op k len i).Inv := by
  simp only [runPlaceOk, Bool.and_eq_true, decide_eq_true_eq] at hd
  obtain ⟨⟨⟨⟨hr, -⟩, hlen⟩, hlo⟩, hhi⟩ := hd
  unfold Machine.afterDrain
  split
  · rename_i hi
    refine h.inv_goto ((placeOk_run _ _ _).2 ⟨hop, ?_⟩) k
    simp only [runPlaceOk, Bool.and_eq_true, decide_eq_true_eq]
    exact ⟨⟨⟨⟨hr, hi⟩, hlen⟩, hlo⟩, hhi⟩
  · obtain ⟨hw, hb, ht, -, hn, hm⟩ := h
    refine State.Fit.endRun (s := { s with rxLen := BitVec.ofNat 7 len }) ⟨hw, hb, ht, ?_, hn, hm⟩ op k
    rw [BitVec.toNat_ofNat]
    exact le_trans (Nat.mod_le _ _) hlen

theorem State.Fit.runAdvance (h : s.Fit) (hop : FrameStaged s op) (k : Nat) (v : Byte)
    {q : RunPoint} (hq : runPlaceOk s op q = true) : (runAdvance s op k v q).Inv := by
  have next {s' : State} (h' : s'.Fit) (ht : s'.txLen = s.txLen) {q' : RunPoint} (hq' : runPlaceOk s' op q' = true) :
      (s'.goto op k (.run q')).Inv := h'.inv_goto ((placeOk_run _ _ _).2 ⟨by rwa [FrameStaged, ht], hq'⟩) k
  cases q with
  | enable => exact next h rfl rfl
  | irqRead => exact next (s' := { s with tmp := v }) h rfl rfl
  | irqWrite => exact next h rfl rfl
  | flushRead => exact next (s' := { s with tmp := v }) h rfl rfl
  | flushWrite => exact next h rfl rfl
  | idle => exact h.runPush hop k 0
  | push i => exact h.runPush hop k (i + 1)
  | start =>
    simp only [Machine.runAdvance]
    split
    · rename_i hr
      exact next h rfl (by simp [runPlaceOk, hr])
    · exact next (s' := { s with cnt := s.cfg.transceiveBudget }) h rfl
        (by simpa [runPlaceOk] using (Config.Wf.budgets h.1).1)
  | sendRead => exact next (s' := { s with tmp := v }) h rfl hq
  | sendWrite =>
    exact next (s' := { s with cnt := s.cfg.transceiveBudget }) h rfl
      (by simpa [runPlaceOk] using (Config.Wf.budgets h.1).1)
  | poll => exact State.Fit.afterPoll (s := { s with irqV := v, cnt := s.cnt - 1 }) h hop k
  | clearRead => exact next (s' := { s with tmp := v }) h rfl hq
  | clearWrite => exact next h rfl hq
  | error => exact State.Fit.afterError (s := { s with errV := v }) h hop k
  | level => exact next h rfl hq
  | control lvl => exact h.afterControl hop (by simpa [runPlaceOk] using hq) k lvl v
  | drain len i => exact State.Fit.afterDrain (s := { s with rxBuf := putBytes s.rxBuf i [v] }) h hop hq k

/-- Where a completed transaction leads keeps the invariant. -/
theorem State.Fit.advance (h : s.Fit) {p : Point} (hp : placeOk s op p = true) (k : Nat) (v : Byte) :
    (advance s op k v p).Inv := by
  cases p with
  | init q =>
    obtain rfl : op = .init := by simpa [placeOk] using hp
    exact h.initAdvance k v q
  | framing =>
    obtain ⟨he, hl⟩ := Op.framedFrame_length (show op.frames = true from hp) s.cfg
    exact (h.stage hl op.frameLength_le).enterRun ⟨he, stage_txLen_toNat hl op.frameLength_le⟩ k
  | crc q =>
    obtain ⟨hop, -⟩ := (placeOk_crc s op q).1 hp
    exact h.crcAdvance hop k v q
  | run q =>
    obtain ⟨hop, hq⟩ := (placeOk_run s op q).1 hp
    exact h.runAdvance hop k v hq
  | deauthRead => exact State.Fit.inv_goto (s := { s with tmp := v }) h (p := .deauthWrite) hp k
  | deauthWrite => exact h.finishUnit
  | busRead a => exact h.finishLone _
  | busWrite a w => exact h.finishLone _
  | command c => exact h.finishLone _

end

/-! ## One transaction, one step -/

/-- A bus error leaves unspecified registers within their ranges (R290). -/
theorem State.Inv.takeBusError {s : State} (h : s.Inv) (r : Request) : (s.takeBusError r).Inv := by
  obtain ⟨hw, -, ht, -, -, hm, -⟩ := h
  exact ⟨hw, by simp, ht, freeLen_le _, freeBits_le _, hm.failEffect r, rfl⟩

/-- A transaction keeps the invariant, completed or failed. -/
theorem State.Inv.tick {s : State} (h : s.Inv) (a : Answer) : (tick s a).Inv := by
  cases hs : s.seq with
  | run op k p =>
    cases a with
    | done v =>
      obtain ⟨⟨hw, hb, ht, hl, hn, hm⟩, hp⟩ := h.fit hs
      rw [tick_done hs]
      exact State.Fit.advance (s := s.record (request s op p) v) ⟨hw, hb, ht, hl, hn, hm.effect _⟩ hp _ v
    | failed => rw [tick_failed hs]; exact (h.takeBusError _).releaseKey op
  | idle => rwa [tick_rest (by simp [State.running, hs])]
  | fault => rwa [tick_rest (by simp [State.running, hs])]

theorem State.Inv.drawn {s : State} (h : s.Inv) : s.drawn.Inv := by
  unfold State.drawn
  split <;> exact h

theorem State.Inv.proceed {s : State} (h : s.Inv) : s.proceed.Inv := by
  unfold State.proceed
  split
  · exact h.drawn.tick _
  · exact h

/-- The reset values are within the ranges of R21. -/
theorem State.Inv.engineReset {s : State} (h : s.Inv) : s.engineReset.Inv := by
  obtain ⟨hw, -, -, -, -, hm, -⟩ := h
  exact ⟨hw, by simp, by simp, by simp, by simp, hm, rfl⟩

/-- An operation that stages its payload starts with the CRC over it (R191, R206, R210). -/
theorem State.Fit.inv_enterCrc {s : State} (h : s.Fit) {op : Op} {bytes : List Byte} (hc : op.crcPayload ≠ 0)
    (hl : bytes.length = op.crcPayload) : ((s.stage bytes).enterOp op (.crc .clearRead)).Inv := by
  have hle : op.crcPayload ≤ 18 := by
    have := (Op.frameLength_of_crcPayload hc).2
    have := op.frameLength_le
    omega
  exact (h.stage hl hle).inv_enterOp ((placeOk_crc _ _ _).2 ⟨⟨hc, stage_txLen_toNat hl hle⟩, rfl⟩)

/-- An operation that stages its whole frame starts with the exchange (R196, R338). -/
theorem State.Fit.inv_enterFrame {s : State} (h : s.Fit) {op : Op} {bytes : List Byte} (he : op.exchanges = true)
    (hl : bytes.length = op.frameLength) : ((s.stage bytes).enterOp op (.run .enable)).Inv :=
  (h.stage hl op.frameLength_le).inv_enterOp
    ((placeOk_run _ _ _).2 ⟨⟨he, stage_txLen_toNat hl op.frameLength_le⟩, rfl⟩)

/-- Every instruction starts at a consistent place. -/
theorem State.Fit.startOf {s : State} (h : s.Fit) (hs : s.seq = .idle) (i : Instr) : (startOf i s).Inv := by
  cases i with
  | init => exact h.inv_enterOp (op := .init) rfl
  | scan => exact h.inv_enterOp (op := .scan) rfl
  | identify => exact h.inv_enterOp (op := .identify) rfl
  | select sn => exact State.Fit.inv_enterCrc (s := { s with sn := sn }) h (by decide) (by simp [selectPayload, Op.crcPayload])
  | authenticate keyB blk key uid =>
    exact State.Fit.inv_enterFrame (s := { s with keyB := keyB, blk := blk, key := key, sn := latchUid s.sn uid }) h rfl
      (by simp [authBlock, Op.frameLength])
  | deauthenticate => exact h.inv_enterOp (op := .deauthenticate) rfl
  | read blk => exact State.Fit.inv_enterCrc (s := { s with blk := blk }) h (by decide) rfl
  | write blk data => exact State.Fit.inv_enterCrc (s := { s with blk := blk, data := data }) h (by decide) rfl
  | rdreg a d =>
    change (startRdreg a s).Inv
    obtain ⟨ha, hst⟩ | ⟨-, hst⟩ := startRdreg_cases a s <;> rw [hst]
    · exact h.inv_enterOp (by simp [placeOk, ha])
    · exact State.Fit.inv_idle (s := s.turnAway (.illegal .notAccessed)) h hs
  | wrreg a v =>
    change (startWrreg a v s).Inv
    obtain ⟨ha, hst⟩ | ⟨-, hst⟩ := startWrreg_cases a v s <;> rw [hst]
    · exact h.inv_enterOp (by simp [placeOk, ha])
    · exact State.Fit.inv_idle (s := s.turnAway (.illegal .notAccessed)) h hs
  | cmdIdle => exact h.inv_enterOp (op := .command) rfl
  | cmdCalcCrc => exact h.inv_enterOp (op := .command) rfl
  | cmdTransceive => exact h.inv_enterOp (op := .command) rfl
  | cmdMfAuthent => exact h.inv_enterOp (op := .command) rfl
  | cmdSoftReset => exact h.inv_enterOp (op := .command) rfl
  | request => exact h.inv_enterOp (op := .exchange .request) rfl
  | anticoll => exact h.inv_enterOp (op := .exchange .anticoll) rfl
  | selectFrame sn crc => exact h.inv_enterFrame rfl (Laws.EncodedPort.selectFrame sn crc s.cfg).2.1
  | authblkA blk key uid => exact h.inv_enterFrame rfl (Laws.EncodedPort.authblkA blk key uid s.cfg).2.1
  | authblkB blk key uid => exact h.inv_enterFrame rfl (Laws.EncodedPort.authblkB blk key uid s.cfg).2.1
  | mfRead blk crc => exact h.inv_enterFrame rfl (Laws.EncodedPort.mfRead blk crc s.cfg).2.1
  | mfWrite blk crc => exact h.inv_enterFrame rfl (Laws.EncodedPort.mfWrite blk crc s.cfg).2.1
  | mfWriteData data crc => exact h.inv_enterFrame rfl (Laws.EncodedPort.mfWriteData data crc s.cfg).2.1

/-- An offer, accepted or turned away, keeps the invariant. -/
theorem State.Inv.exec {s t : State} (h : s.Inv) {i : Instr} (ht : exec i s = .next t) : t.Inv := by
  obtain ⟨why, rfl⟩ | ⟨⟨hs, -⟩, rfl⟩ := exec_cases ht
  · exact h
  · exact (h.fit_idle hs).startOf hs i

/-- Settles O16: each of the four cases of a step keeps the invariant. -/
theorem everyStepKeepsTheInvariant : Obligations.EveryStepKeepsTheInvariant := by
  intro s t h ht
  obtain ⟨-, hstep⟩ | ⟨-, o, rest, i, -, -, hstep⟩ | ⟨-, o, rest, r, -, -, hstep⟩ | ⟨-, -, hstep⟩ := step_cases s
  · cases hstep.symm.trans ht
    exact h.engineReset
  · exact State.Inv.exec (s := { s with inbox := rest }) h (hstep.symm.trans ht)
  · cases hstep.symm.trans ht
    exact h
  · cases hstep.symm.trans ht
    exact h.proceed

/-- Settles O15: the reset state is an engine at rest with the default configuration and no lengths. -/
theorem resetSatisfiesTheInvariant : Obligations.ResetSatisfiesTheInvariant := by
  have hcfg : Config.default.Wf := by decide
  exact State.Fit.inv_idle ⟨hcfg, rfl, Nat.zero_le _, Nat.zero_le _, Nat.zero_le _, reset_mem_wf⟩ rfl

end Sys2Proof.Machine
end

section
/-! PROOF. Reset, the bus-fault latch and what waits outside (R27, R31, R290, R292, R321). -/

namespace Sys2Proof.Machine

/-! ## Reset -/

/-- Settles O11: each value is the field of that name. -/
theorem resetLeavesTheStatedValues : Obligations.ResetLeavesTheStatedValues :=
  ⟨rfl, rfl, rfl, rfl, rfl, rfl, rfl, rfl, rfl⟩

/-- An engine reset asked for comes before everything else. -/
theorem step_reset {s : State} (h : s.resetLine = true) : step s = .next s.engineReset := by
  simp [step, State.nextThing, h]

/-- Settles O12: the step is the reset itself, which has the stated values. -/
theorem engineResetFromEveryState : Obligations.EngineResetFromEveryState := by
  intro s h
  exact ⟨s.engineReset, step_reset h, rfl, rfl, rfl, rfl, rfl, rfl, rfl, rfl, rfl, rfl, rfl, rfl, rfl⟩

/-! ## The latch -/

/-- A failing transaction latches the fault and takes the sequencer to FAULT (R290). -/
theorem tick_failed_latches {s : State} (h : s.running = true) :
    (tick s .failed).busFault = true ∧ (tick s .failed).seq = .fault := by
  obtain ⟨op, k, p, hs⟩ := (running_iff s).1 h
  obtain ⟨-, -, -, -, -, -, hb⟩ := releaseKey_boundary (s.takeBusError (request s op p)) op
  rw [tick_failed hs, State.releaseKey_seq]
  exact ⟨hb, rfl⟩

/-- The latch is set in FAULT only. -/
theorem State.Inv.seq_fault {s : State} (h : s.Inv) (hb : s.busFault = true) : s.seq = .fault := by
  obtain ⟨-, hf, -⟩ := h
  exact hf.1 hb

/-- A step of a faulted engine that is no reset turns an offer away or rests. -/
theorem step_faulted {s t : State} (hb : s.busFault = true) (hs : s.seq = .fault) (hr : s.resetLine = false)
    (h : step s = .next t) : t.busFault = true ∧ t.seq = .fault ∧ t.events = s.events := by
  obtain ⟨hr', -⟩ | ⟨-, o, rest, i, -, -, hstep⟩ | ⟨-, o, rest, r, -, -, hstep⟩ | ⟨-, -, hstep⟩ := step_cases s
  · simp [hr] at hr'
  · rw [exec_busFault (s := { s with inbox := rest }) hb] at hstep
    cases hstep.symm.trans h
    exact ⟨hb, hs, rfl⟩
  · cases hstep.symm.trans h
    exact ⟨hb, hs, rfl⟩
  · rw [proceed_rest (by simp [State.running, hs])] at hstep
    cases hstep.symm.trans h
    exact ⟨hb, hs, rfl⟩

/-- Settles O14: set by the failing transaction, kept by every case of a step but the reset, refusing every offer. -/
theorem busFaultLatchIsSticky : Obligations.BusFaultLatchIsSticky := by
  refine ⟨fun s => tick_failed_latches, fun s t hi hb hr h => step_faulted hb (hi.seq_fault hb) hr h,
    fun s hi hb => hi.seq_fault hb, fun i s hb => exec_busFault hb i, fun s t hr h => ?_⟩
  cases (step_reset hr).symm.trans h
  rfl

/-! ## What waits outside -/

/-- A run takes its answers from the front of the tape and records one transaction for each. -/
theorem drive_consumes (as : List Answer) (s : State) :
    ∃ used new, as = used ++ (drive as s).answers ∧ (drive as s).events = new ++ s.events ∧
      new.length = used.length := by
  induction as generalizing s with
  | nil => exact ⟨[], [], rfl, rfl, rfl⟩
  | cons a as ih =>
    cases hrun : s.running with
    | false => rw [drive_rest hrun]; exact ⟨[], [], rfl, rfl, rfl⟩
    | true =>
      obtain ⟨op, k, p, hs⟩ := (running_iff s).1 hrun
      obtain ⟨used, new, hused, hnew, hlen⟩ := ih (tick s a)
      rw [tick_events hs] at hnew
      rw [drive_cons hrun]
      exact ⟨a :: used, new ++ [(request s op p).entry a], by rw [List.cons_append, ← hused], by simp [hnew], by simp [hlen]⟩

/-- A run changes neither the configuration nor what is offered or asked for. -/
theorem drive_outside (as : List Answer) (s : State) :
    (drive as s).cfg = s.cfg ∧ (drive as s).inbox = s.inbox ∧ (drive as s).resetLine = s.resetLine := by
  refine drive_induction (P := fun u => u.cfg = s.cfg ∧ u.inbox = s.inbox ∧ u.resetLine = s.resetLine)
    (fun u a _ hu => ?_) (fun u as hu => hu) as s ⟨rfl, rfl, rfl⟩
  obtain ⟨hc, hi, hr⟩ := hu
  obtain ⟨hc', -, hi', hr'⟩ := tick_outside u a
  exact ⟨hc'.trans hc, hi'.trans hi, hr'.trans hr⟩

/-- Settles O18: the offer touches nothing of the boundary, and the run takes answer for transaction. -/
theorem noInstructionChangesTheConfiguration : Obligations.NoInstructionChangesTheConfiguration := by
  rintro i s t (h | ⟨-, u, hu, rfl⟩)
  · obtain ⟨hc, ha, hi, hr, he, -, -⟩ := exec_boundary h
    exact ⟨hc, hi, hr, [], [], ha.symm, he, rfl⟩
  · obtain ⟨hc, ha, hi, hr, he, -, -⟩ := exec_boundary hu
    obtain ⟨hc', hi', hr'⟩ := drive_outside u.answers u
    obtain ⟨used, new, hused, hnew, hlen⟩ := drive_consumes u.answers u
    exact ⟨hc'.trans hc, hi'.trans hi, hr'.trans hr, used, new, ha ▸ hused, he ▸ hnew, hlen⟩

end Sys2Proof.Machine
end

section
/-! SUPPORT. Where a completed transaction can lead, and the places an instruction comes to. -/

namespace Sys2Proof.Machine

/-! ## Where a completed transaction can lead -/

/-- The next transaction of an operation is in the same routine, or in the `RunCommand` that its framing write or its CRC
leads to. `advance_leads` ties it to the machine. -/
def Point.followedBy : Point → Point → Prop
  | .init _, .init _ => True
  | .framing, .run _ => True
  | .crc _, .crc _ => True
  | .crc _, .run _ => True
  | .run _, .run _ => True
  | .deauthRead, .deauthWrite => True
  | _, _ => False

/-- From a place of an operation the engine comes to rest, goes on with the operation, or goes from the exchange of the first
phase of WRITE to the CRC of the second (R213). -/
def LeadsTo (op : Op) (k : Nat) (p : Point) (t : State) : Prop :=
  t.seq = .idle ∨ (∃ p', t.seq = .run op k p' ∧ p.followedBy p') ∨
    (op = .write .one ∧ (∃ q, p = .run q) ∧ t.seq = .run (.write .two) k (.crc .clearRead))

section
variable {op : Op} {k : Nat} {p : Point}

theorem leadsTo_idle {t : State} (h : t.seq = .idle) : LeadsTo op k p t := .inl h

theorem leadsTo_goto (s : State) {p' : Point} (h : p.followedBy p') : LeadsTo op k p (s.goto op k p') :=
  .inr (.inl ⟨p', rfl, h⟩)

theorem endRun_leads (s : State) (q : RunPoint) : LeadsTo op k (.run q) (s.endRun op k) := by
  obtain h | ⟨hop, h⟩ := endRun_seq s op k
  · exact leadsTo_idle h
  · exact .inr (.inr ⟨hop, ⟨q, rfl⟩, h⟩)

theorem enterRun_leads (s : State) (h : p.followedBy (.run .enable)) : LeadsTo op k p (enterRun s op k) := by
  unfold enterRun
  split
  · exact leadsTo_idle rfl
  · exact leadsTo_goto s h

theorem initAdvance_leads (s : State) (v : Byte) (q : InitPoint) : LeadsTo op k (.init q) (initAdvance s op k v q) := by
  cases q with
  | antennaTest =>
    simp only [initAdvance]
    split
    · exact leadsTo_idle rfl
    · exact leadsTo_goto _ trivial
  | antennaWrite => exact leadsTo_idle rfl
  | _ => exact leadsTo_goto _ trivial

theorem crcPush_leads (s : State) (q : CrcPoint) (i : Nat) : LeadsTo op k (.crc q) (crcPush s op k i) := by
  unfold crcPush
  split <;> exact leadsTo_goto _ trivial

theorem crcAdvance_leads (s : State) (v : Byte) (q : CrcPoint) : LeadsTo op k (.crc q) (crcAdvance s op k v q) := by
  cases q with
  | flushWrite => exact crcPush_leads _ _ _
  | push i => exact crcPush_leads _ _ _
  | poll =>
    simp only [crcAdvance]
    split <;> exact leadsTo_goto _ trivial
  | resultM => exact enterRun_leads _ trivial
  | _ => exact leadsTo_goto _ trivial

theorem runPush_leads (s : State) (q : RunPoint) (i : Nat) : LeadsTo op k (.run q) (runPush s op k i) := by
  unfold runPush
  split <;> exact leadsTo_goto _ trivial

theorem afterPoll_leads (s : State) (q : RunPoint) : LeadsTo op k (.run q) (afterPoll s op k) := by
  unfold afterPoll
  split
  · exact endRun_leads _ _
  · split <;> exact leadsTo_goto _ trivial

theorem afterError_leads (s : State) (q : RunPoint) : LeadsTo op k (.run q) (afterError s op k) := by
  unfold afterError
  split
  · exact endRun_leads _ _
  · split
    · exact endRun_leads _ _
    · split
      · exact leadsTo_goto _ trivial
      · exact endRun_leads _ _

theorem afterDrain_leads (s : State) (q : RunPoint) (len i : Nat) : LeadsTo op k (.run q) (afterDrain s op k len i) := by
  unfold afterDrain
  split
  · exact leadsTo_goto _ trivial
  · exact endRun_leads _ _

theorem runAdvance_leads (s : State) (v : Byte) (q : RunPoint) : LeadsTo op k (.run q) (runAdvance s op k v q) := by
  cases q with
  | idle => exact runPush_leads _ _ _
  | push i => exact runPush_leads _ _ _
  | start =>
    simp only [runAdvance]
    split <;> exact leadsTo_goto _ trivial
  | poll => exact afterPoll_leads _ _
  | error => exact afterError_leads _ _
  | drain len i => exact afterDrain_leads _ _ _ _
  | _ => exact leadsTo_goto _ trivial

/-- Where a completed transaction can lead. -/
theorem advance_leads (s : State) (v : Byte) : LeadsTo op k p (advance s op k v p) := by
  cases p with
  | init q => exact initAdvance_leads _ _ _
  | framing => exact enterRun_leads _ trivial
  | crc q => exact crcAdvance_leads _ _ _
  | run q => exact runAdvance_leads _ _ _
  | deauthRead => exact leadsTo_goto _ trivial
  | _ => exact leadsTo_idle rfl

end

/-! ## The places an instruction comes to -/

/-- The operations an instruction runs: the one it starts with, and for WRITE the second phase. -/
def Op.goesOnAs (first op : Op) : Prop := op = first ∨ (first = .write .one ∧ op = .write .two)

/-- The places where an operation of an instruction makes its transactions. -/
def PlaceOf (c : Config) (i : Instr) (op : Op) : Point → Prop
  | .init _ => i = .init
  | .framing => op.frames = true
  | .crc _ => op.crcPayload ≠ 0
  | .run _ => op.exchanges = true
  | .deauthRead => i = .deauthenticate
  | .deauthWrite => i = .deauthenticate
  | .busRead a => (∃ d, i = .rdreg a d) ∧ readAllowed c a = true
  | .busWrite a v => i = .wrreg a v ∧ writeAllowed c a v = true
  | .command _ => i.op = .command

/-- Whatever runs is an operation of the instruction, at one of its places. -/
def OnCourse (i : Instr) (s : State) : Prop :=
  ∀ op k p, s.seq = .run op k p → i.op.goesOnAs op ∧ PlaceOf s.cfg i op p

theorem onCourse_of_idle {i : Instr} {s : State} (h : s.seq = .idle) : OnCourse i s := by
  intro op k p hs
  rw [h] at hs
  cases hs

theorem onCourse_of_run {i : Instr} {s : State} {op : Op} {k : Nat} {p : Point} (h : s.seq = .run op k p)
    (hop : i.op.goesOnAs op) (hp : PlaceOf s.cfg i op p) : OnCourse i s := by
  intro op' k' p' hs
  rw [h] at hs
  cases hs
  exact ⟨hop, hp⟩

theorem onCourse_enterOp {i : Instr} (s : State) {p : Point} (hp : PlaceOf s.cfg i i.op p) :
    OnCourse i (s.enterOp i.op p) := onCourse_of_run rfl (.inl rfl) hp

/-- Going on with an operation stays among the places of the instruction. -/
theorem PlaceOf.followedBy {c : Config} {i : Instr} {op : Op} {p p' : Point} (h : PlaceOf c i op p)
    (hf : p.followedBy p') : PlaceOf c i op p' := by
  cases p with
  | init q =>
    cases p' with
    | init q' => exact h
    | _ => exact hf.elim
  | framing =>
    cases p' with
    | run q' => exact (Op.framedFrame_length h c).1
    | _ => exact hf.elim
  | crc q =>
    cases p' with
    | crc q' => exact h
    | run q' => exact (Op.frameLength_of_crcPayload h).1
    | _ => exact hf.elim
  | run q =>
    cases p' with
    | run q' => exact h
    | _ => exact hf.elim
  | deauthRead =>
    cases p' with
    | deauthWrite => exact h
    | _ => exact hf.elim
  | _ => exact hf.elim

/-- The second phase of WRITE is the operation of an instruction that runs the first. -/
theorem Op.goesOnAs.two {first : Op} (h : first.goesOnAs (.write .one)) : first.goesOnAs (.write .two) := by
  obtain rfl | ⟨-, h⟩ := h
  · exact .inr ⟨rfl, rfl⟩
  · cases h

/-- A transaction keeps an instruction on course. -/
theorem OnCourse.tick {i : Instr} {s : State} (h : OnCourse i s) (a : Answer) : OnCourse i (tick s a) := by
  cases hs : s.seq with
  | run op k p =>
    obtain ⟨hop, hp⟩ := h op k p hs
    cases a with
    | done v =>
      rw [tick_done hs]
      obtain ⟨hc, -⟩ := advance_boundary (s.record (request s op p) v) op (k + 1) v p
      obtain hidle | ⟨p', hrun, hf⟩ | ⟨rfl, -, hrun⟩ :=
        advance_leads (op := op) (k := k + 1) (p := p) (s.record (request s op p) v) v
      · exact onCourse_of_idle hidle
      · exact onCourse_of_run hrun hop (hc ▸ hp.followedBy hf)
      · exact onCourse_of_run hrun hop.two (by simp [PlaceOf, Op.crcPayload])
    | failed =>
      have hfault : (Machine.tick s .failed).seq = .fault := (tick_failed_latches ((running_iff s).2 ⟨op, k, p, hs⟩)).2
      intro op' k' p' hs'
      rw [hfault] at hs'
      cases hs'
  | idle => rwa [tick_rest (by simp [State.running, hs])]
  | fault => rwa [tick_rest (by simp [State.running, hs])]

/-- Every instruction starts on course. -/
theorem startOf_onCourse (i : Instr) {s : State} (hs : s.seq = .idle) : OnCourse i (startOf i s) := by
  cases i with
  | rdreg a d =>
    change OnCourse _ (startRdreg a s)
    obtain ⟨ha, hst⟩ | ⟨-, hst⟩ := startRdreg_cases a s <;> rw [hst]
    · exact onCourse_enterOp (i := .rdreg a d) s ⟨⟨d, rfl⟩, ha⟩
    · exact onCourse_of_idle hs
  | wrreg a v =>
    change OnCourse _ (startWrreg a v s)
    obtain ⟨ha, hst⟩ | ⟨-, hst⟩ := startWrreg_cases a v s <;> rw [hst]
    · exact onCourse_enterOp (i := .wrreg a v) s ⟨rfl, ha⟩
    · exact onCourse_of_idle hs
  | select sn => exact onCourse_of_run rfl (.inl rfl) (by simp [PlaceOf, Op.crcPayload])
  | read blk => exact onCourse_of_run rfl (.inl rfl) (by simp [PlaceOf, Op.crcPayload])
  | write blk data => exact onCourse_of_run rfl (.inl rfl) (by simp [PlaceOf, Op.crcPayload])
  | _ => exact onCourse_of_run rfl (.inl rfl) rfl

/-- The operations of an instruction exchange frames, or none does. -/
theorem Op.goesOnAs.exchanges {first op : Op} (h : first.goesOnAs op) : op.exchanges = first.exchanges := by
  obtain rfl | ⟨rfl, rfl⟩ := h <;> rfl

/-- They ask for a CRC, or none does. -/
theorem Op.goesOnAs.crcPayload {first op : Op} (h : first.goesOnAs op) (hc : op.crcPayload ≠ 0) :
    first.crcPayload ≠ 0 := by
  obtain rfl | ⟨rfl, rfl⟩ := h
  · exact hc
  · decide

end Sys2Proof.Machine
end

section
/-! PROOF. Which registers are accessed (R59, R71, R79, R105, R304). -/

namespace Sys2Proof.Machine

/-! ## The accesses of R59 -/

/-- The registers the engine writes without a condition on the byte: all of R59's column but the command register (R105) and
the TX-control register (R304). -/
def plainWrites (r : RegMap) : List Byte :=
  [r.comIEn, r.comIrq, r.divIrq, r.status2, r.fifoData, r.fifoLevel, r.bitFraming, r.mode, r.txASK, r.tMode,
   r.tPrescaler, r.tReloadH, r.tReloadL]

/-- The command register is none of the other addresses of R59. -/
theorem command_notMem {r : RegMap} (h : r.addresses.Nodup) : r.command ∉ r.txControl :: plainWrites r := by
  obtain ⟨hc, -⟩ := List.nodup_cons.1 h
  exact fun hm => hc ((by simp [plainWrites, RegMap.addresses] : r.txControl :: plainWrites r ⊆ r.addresses.tail) hm)

/-- The TX-control register is none of those written without a condition. -/
theorem txControl_notMem {r : RegMap} (h : r.addresses.Nodup) : r.txControl ∉ plainWrites r := by
  have hmid : (r.addresses.take 11 ++ r.txControl :: r.addresses.drop 12).Nodup := h
  obtain ⟨ht, -⟩ := List.nodup_cons.1 (List.nodup_middle.1 hmid)
  exact fun hm => ht
    ((by simp [plainWrites, RegMap.addresses] : plainWrites r ⊆ r.addresses.take 11 ++ r.addresses.drop 12) hm)

section
variable {c : Config}

theorem writeOk_plain (h : c.Wf) {a : Byte} (ha : a ∈ plainWrites c.reg) (v : Byte) : c.writeOk a v = true := by
  have hc : a ≠ c.reg.command := fun e => command_notMem h.1 (e ▸ List.mem_cons_of_mem _ ha)
  have ht : a ≠ c.reg.txControl := fun e => txControl_notMem h.1 (e ▸ ha)
  have hw : a ∈ c.reg.writable := (by simp [plainWrites, RegMap.writable] : plainWrites c.reg ⊆ c.reg.writable) ha
  simp [Config.writeOk, hc, ht, hw]

/-- The codes are the values of R104. -/
theorem code_mem (cmd : Command) : c.cmd.code cmd ∈ c.cmd.codes := by
  cases cmd <;> simp [CommandCodes.code, CommandCodes.codes]

theorem writeOk_command (h : c.Wf) (cmd : Command) : c.writeOk c.reg.command (c.cmd.code cmd) = true := by
  have ht : c.reg.command ≠ c.reg.txControl := fun e => command_notMem h.1 (e ▸ List.mem_cons_self)
  simp [Config.writeOk, RegMap.writable, code_mem, ht]

/-- Setting bits leaves them all set. -/
theorem setBits_and (v m : Byte) : setBits v m &&& m = m := by
  unfold setBits
  ext i
  simp +contextual

theorem writeOk_antennaOn (h : c.Wf) (v : Byte) : c.writeOk c.reg.txControl (setBits v c.bit.antennaOn) = true := by
  have hc : c.reg.txControl ≠ c.reg.command := fun e => command_notMem h.1 (e ▸ List.mem_cons_self)
  simp [Config.writeOk, RegMap.writable, hc, setBits_and]

end

/-- The transaction a request asks for is one of R59. -/
def Request.allowed (c : Config) : Request → Bool
  | .read a => c.readOk a
  | .write a v => c.writeOk a v

/-- So is its entry in the history, whatever the answer. -/
theorem entry_allowed (c : Config) (r : Request) (a : Answer) : (r.entry a).allowed c = r.allowed c := by
  cases r <;> cases a <;> rfl

/-- At a lone bus word the access is one of R59. -/
def AccessOk (c : Config) (p : Point) : Prop :=
  (∀ a, p = .busRead a → readAllowed c a = true) ∧ (∀ a v, p = .busWrite a v → writeAllowed c a v = true)

theorem PlaceOf.accessOk {c : Config} {i : Instr} {op : Op} {p : Point} (h : PlaceOf c i op p) : AccessOk c p := by
  refine ⟨?_, ?_⟩
  · rintro a rfl
    exact h.2
  · rintro a v rfl
    exact h.2

theorem accessOk_of_placeOk {s : State} {op : Op} {p : Point} (h : placeOk s op p = true) : AccessOk s.cfg p := by
  refine ⟨?_, ?_⟩
  · rintro a rfl
    exact (Bool.and_eq_true_iff.1 h).2
  · rintro a v rfl
    exact (Bool.and_eq_true_iff.1 h).2

/-- Every transaction of the micro-sequence is one of R59. -/
theorem request_allowed {s : State} {op : Op} {p : Point} (hw : s.cfg.Wf) (hp : AccessOk s.cfg p) :
    (request s op p).allowed s.cfg = true := by
  have plain {a : Byte} (ha : a ∈ plainWrites s.cfg.reg) (v : Byte) : (Request.write a v).allowed s.cfg = true :=
    writeOk_plain hw ha v
  have reads {a : Byte} (ha : a ∈ s.cfg.reg.readable) : (Request.read a).allowed s.cfg = true := List.contains_iff_mem.2 ha
  cases p with
  | init q =>
    cases q with
    | softReset => exact writeOk_command hw .softReset
    | antennaTest => exact reads (by simp [RegMap.readable])
    | antennaRead => exact reads (by simp [RegMap.readable])
    | antennaWrite => exact writeOk_antennaOn hw _
    | _ => exact plain (by simp [plainWrites]) _
  | framing => exact plain (by simp [plainWrites]) _
  | crc q =>
    cases q with
    | clearWrite => exact plain (by simp [plainWrites]) _
    | flushWrite => exact plain (by simp [plainWrites]) _
    | push i => exact plain (by simp [plainWrites]) _
    | start => exact writeOk_command hw .calcCrc
    | _ => exact reads (by simp [RegMap.readable])
  | run q =>
    cases q with
    | enable => exact plain (by simp [plainWrites]) _
    | irqWrite => exact plain (by simp [plainWrites]) _
    | flushWrite => exact plain (by simp [plainWrites]) _
    | idle => exact writeOk_command hw .idle
    | push i => exact plain (by simp [plainWrites]) _
    | start => exact writeOk_command hw op.runs
    | sendWrite => exact plain (by simp [plainWrites]) _
    | clearWrite => exact plain (by simp [plainWrites]) _
    | _ => exact reads (by simp [RegMap.readable])
  | deauthRead => exact reads (by simp [RegMap.readable])
  | deauthWrite => exact plain (by simp [plainWrites]) _
  | busRead a => exact hp.1 a rfl
  | busWrite a v => exact hp.2 a v rfl
  | command cmd => exact writeOk_command hw cmd

/-! ## The registers of an operation (R79) -/

theorem exchangeWrites_subset {c : Config} {i : Instr} (h : i.op.exchanges = true) :
    c.exchangeWrites ⊆ i.writesTo c := by
  cases i with
  | select sn => exact List.subset_append_right _ _
  | read blk => exact List.subset_append_right _ _
  | write blk data => exact List.subset_append_right _ _
  | init => cases h
  | deauthenticate => cases h
  | rdreg a d => cases h
  | wrreg a v => cases h
  | cmdIdle => cases h
  | cmdCalcCrc => cases h
  | cmdTransceive => cases h
  | cmdMfAuthent => cases h
  | cmdSoftReset => cases h
  | _ => exact List.Subset.refl _

theorem crcWrites_subset {c : Config} {i : Instr} (h : i.op.crcPayload ≠ 0) : c.crcWrites ⊆ i.writesTo c := by
  cases i with
  | select sn => exact List.subset_append_left _ _
  | read blk => exact List.subset_append_left _ _
  | write blk data => exact List.subset_append_left _ _
  | _ => exact absurd rfl h

/-- A command row writes the command register alone. -/
theorem command_mem_writesTo {c : Config} {i : Instr} (h : i.op = .command) : c.reg.command ∈ i.writesTo c := by
  cases i with
  | cmdIdle => exact List.mem_cons_self
  | cmdCalcCrc => exact List.mem_cons_self
  | cmdTransceive => exact List.mem_cons_self
  | cmdMfAuthent => exact List.mem_cons_self
  | cmdSoftReset => exact List.mem_cons_self
  | _ => cases h

/-- An instruction writes only the registers of its operation. -/
theorem request_write_mem {s : State} {i : Instr} {op : Op} {p : Point} {a w : Byte} (hop : i.op.goesOnAs op)
    (hp : PlaceOf s.cfg i op p) (h : request s op p = .write a w) : a ∈ i.writesTo s.cfg := by
  have ofRun (he : op.exchanges = true) (ha : a ∈ s.cfg.exchangeWrites) : a ∈ i.writesTo s.cfg :=
    exchangeWrites_subset (hop.exchanges ▸ he) ha
  have ofCrc (hc : op.crcPayload ≠ 0) (ha : a ∈ s.cfg.crcWrites) : a ∈ i.writesTo s.cfg :=
    crcWrites_subset (hop.crcPayload hc) ha
  cases p with
  | init q =>
    obtain rfl : i = .init := hp
    cases q <;> cases h <;> simp [Instr.writesTo, Config.initWrites]
  | framing =>
    cases h
    exact ofRun (Op.framedFrame_length hp s.cfg).1 (by simp [Config.exchangeWrites])
  | crc q => cases q <;> cases h <;> exact ofCrc hp (by simp [Config.crcWrites])
  | run q => cases q <;> cases h <;> exact ofRun hp (by simp [Config.exchangeWrites])
  | deauthRead => cases h
  | deauthWrite =>
    obtain rfl : i = .deauthenticate := hp
    cases h
    exact List.mem_cons_self
  | busRead b => cases h
  | busWrite b v =>
    obtain ⟨rfl, -⟩ := hp
    cases h
    exact List.mem_cons_self
  | command cmd =>
    cases h
    exact command_mem_writesTo hp

/-- A transaction that is no write at an address leaves what is known of it. -/
theorem tick_written {s : State} {op : Op} {k : Nat} {p : Point} (hs : s.seq = .run op k p) {b : Byte}
    (h : ∀ w, request s op p ≠ .write b w) (a : Answer) : (tick s a).written b = s.written b := by
  have other {w : Byte} {b' : Byte} (hr : request s op p = .write b' w) : b.toNat ≠ b'.toNat := fun e =>
    h w (by rw [hr, BitVec.eq_of_toNat_eq e])
  cases a with
  | done v =>
    obtain ⟨-, -, -, -, -, hm, -⟩ := advance_boundary (s.record (request s op p) v) op (k + 1) v p
    rw [tick_done hs, State.written, hm, State.record_mem, State.written]
    cases hr : request s op p with
    | read b' => rfl
    | write b' w => exact Request.effect_other _ _ (other hr)
  | failed =>
    obtain ⟨-, -, -, -, -, hm, -⟩ := releaseKey_boundary (s.takeBusError (request s op p)) op
    rw [tick_failed hs, State.written, hm, State.takeBusError_mem, State.written]
    cases hr : request s op p with
    | read b' => rfl
    | write b' w => exact Request.failEffect_other _ _ (other hr)

/-! ## Every access -/

/-- What is added to a history is made of accesses of R59. -/
def Accesses (c : Config) (before after : List Event) : Prop :=
  ∃ new, after = new ++ before ∧ ∀ e ∈ new, e.allowed c = true

theorem Accesses.refl (c : Config) (es : List Event) : Accesses c es es := ⟨[], rfl, by simp⟩

/-- One transaction at a place whose access R59 gives adds one such access. -/
theorem Accesses.tick {c : Config} {before : List Event} {s : State} {op : Op} {k : Nat} {p : Point}
    (h : Accesses c before s.events) (hs : s.seq = .run op k p) (hc : s.cfg = c) (hw : c.Wf) (hp : AccessOk c p)
    (a : Answer) : Accesses c before (tick s a).events := by
  obtain ⟨new, hnew, hall⟩ := h
  subst hc
  refine ⟨(request s op p).entry a :: new, by rw [tick_events hs, hnew, List.cons_append], ?_⟩
  rw [List.forall_mem_cons, entry_allowed]
  exact ⟨request_allowed hw hp, hall⟩

/-- Drawing an answer changes no configuration. -/
@[simp] theorem State.drawn_cfg (s : State) : s.drawn.cfg = s.cfg := by
  unfold State.drawn
  split <;> rfl

/-- A step from a state of the invariant makes only accesses of R59. -/
theorem step_accesses {s t : State} (hi : s.Inv) (h : step s = .next t) : Accesses s.cfg s.events t.events := by
  obtain ⟨-, hstep⟩ | ⟨-, o, rest, i, -, -, hstep⟩ | ⟨-, o, rest, r, -, -, hstep⟩ | ⟨-, -, hstep⟩ := step_cases s
  · cases hstep.symm.trans h
    exact Accesses.refl _ _
  · obtain ⟨-, -, -, -, he, -, -⟩ := exec_boundary (hstep.symm.trans h)
    rw [he]
    exact Accesses.refl _ _
  · cases hstep.symm.trans h
    exact Accesses.refl _ _
  · cases hstep.symm.trans h
    cases hrun : s.running with
    | false => rw [proceed_rest hrun]; exact Accesses.refl _ _
    | true =>
      obtain ⟨op, k, p, hs⟩ := (running_iff s).1 hrun
      obtain ⟨⟨hw, -⟩, hp⟩ := hi.fit hs
      have hstart : Accesses s.cfg s.events s.drawn.events := by
        rw [State.drawn_events]
        exact Accesses.refl _ _
      rw [proceed_run hrun]
      exact hstart.tick (by rw [State.drawn_seq, hs]) s.drawn_cfg hw (accessOk_of_placeOk hp) _

/-- Settles O22: on course an instruction writes only its own registers, and no place but a lone bus word asks for more than
the fixed accesses of R59. -/
theorem onlyTheOperationsRegistersAreAccessed : Obligations.OnlyTheOperationsRegistersAreAccessed := by
  refine ⟨fun i s t b h hb => ?_, fun i s t hw h => ?_, fun s t hi h => step_accesses hi h⟩
  · have htick (u : State) (a : Answer) (hrun : u.running = true)
        (hu : u.cfg = s.cfg ∧ OnCourse i u ∧ u.written b = s.written b) :
        (tick u a).cfg = s.cfg ∧ OnCourse i (tick u a) ∧ (tick u a).written b = s.written b := by
      obtain ⟨hc, hcourse, hwr⟩ := hu
      obtain ⟨op, k, p, hs⟩ := (running_iff u).1 hrun
      obtain ⟨hop, hp⟩ := hcourse op k p hs
      refine ⟨(tick_outside u a).1.trans hc, hcourse.tick a, (tick_written hs (fun w hr => hb ?_) a).trans hwr⟩
      exact hc ▸ request_write_mem hop hp hr
    have hstart (ha : s.Accepting) :
        (startOf i s).cfg = s.cfg ∧ OnCourse i (startOf i s) ∧ (startOf i s).written b = s.written b := by
      obtain ⟨hc, -, -, -, -, hm, -⟩ := startOf_boundary i s
      exact ⟨hc, startOf_onCourse i ha.1, by rw [State.written, hm, State.written]⟩
    obtain ⟨why, rfl⟩ | ⟨-, -, hwr⟩ := reaches_induction h hstart htick (fun u as hu => hu)
    · rfl
    · exact hwr
  · have htick (u : State) (a : Answer) (hrun : u.running = true)
        (hu : u.cfg = s.cfg ∧ OnCourse i u ∧ Accesses s.cfg s.events u.events) :
        (tick u a).cfg = s.cfg ∧ OnCourse i (tick u a) ∧ Accesses s.cfg s.events (tick u a).events := by
      obtain ⟨hc, hcourse, hacc⟩ := hu
      obtain ⟨op, k, p, hs⟩ := (running_iff u).1 hrun
      obtain ⟨-, hp⟩ := hcourse op k p hs
      exact ⟨(tick_outside u a).1.trans hc, hcourse.tick a, hacc.tick hs hc hw (hc ▸ hp.accessOk) a⟩
    obtain ⟨hc, -, -, -, he, -, -⟩ := startOf_boundary i s
    have hstart : (startOf i s).cfg = s.cfg ∧ OnCourse i (startOf i s) ∧
        Accesses s.cfg s.events (startOf i s).events := ⟨hc, startOf_onCourse i h.1.1, he ▸ Accesses.refl _ _⟩
    obtain ⟨-, -, hacc⟩ := runs_induction h hstart htick (fun u as hu => hu)
    exact hacc

end Sys2Proof.Machine
end

section
/-! PROOF. Frames: the registers that operations and transactions leave alone (R21, R140, R160, R201, R220, R268). -/

namespace Sys2Proof.Machine

/-! ## Operations without an exchange -/

/-- The staged frame, the poll counter, the polled and error bytes, and the operand latches are as they were. -/
abbrev SameStaging (s t : State) : Prop :=
  (t.txBuf = s.txBuf ∧ t.txLen = s.txLen ∧ t.cnt = s.cnt ∧ t.irqV = s.irqV ∧ t.errV = s.errV) ∧
  (t.blk = s.blk ∧ t.keyB = s.keyB ∧ t.key = s.key ∧ t.sn = s.sn ∧ t.data = s.data)

theorem SameStaging.refl (s : State) : SameStaging s s := ⟨⟨rfl, rfl, rfl, rfl, rfl⟩, rfl, rfl, rfl, rfl, rfl⟩

theorem SameStaging.trans {s t u : State} (h : SameStaging s t) (h' : SameStaging t u) : SameStaging s u := by
  obtain ⟨⟨a1, a2, a3, a4, a5⟩, a6, a7, a8, a9, a10⟩ := h
  obtain ⟨⟨b1, b2, b3, b4, b5⟩, b6, b7, b8, b9, b10⟩ := h'
  exact ⟨⟨b1.trans a1, b2.trans a2, b3.trans a3, b4.trans a4, b5.trans a5⟩,
    b6.trans a6, b7.trans a7, b8.trans a8, b9.trans a9, b10.trans a10⟩

/-- An operation that takes a key exchanges frames. -/
theorem Op.keyless_of_no_exchange {op : Op} (h : op.exchanges = false) : op.takesKey = false := by
  cases op with
  | authenticate => cases h
  | exchange kind => cases h
  | _ => rfl

/-- An operation without an exchange asks for no CRC. -/
theorem Op.no_crc_of_no_exchange {op : Op} (h : op.exchanges = false) : op.crcPayload = 0 := by
  by_contra hc
  simp [(Op.frameLength_of_crcPayload hc).1] at h

/-- Outside `RunCommand` and `calculateCRC` a completed transaction leaves staging and latches. -/
theorem advance_sameStaging {c : Config} {i : Instr} {op : Op} {p : Point} (hp : PlaceOf c i op p)
    (hx : op.exchanges = false) (s : State) (k : Nat) (v : Byte) : SameStaging s (advance s op k v p) := by
  cases p with
  | init q =>
    cases q with
    | antennaTest =>
      simp only [advance, initAdvance]
      split <;> exact SameStaging.refl s
    | _ => exact SameStaging.refl s
  | framing => simp [(Op.framedFrame_length hp c).1] at hx
  | crc q => exact absurd (Op.no_crc_of_no_exchange hx) hp
  | run q => simp [show op.exchanges = true from hp] at hx
  | _ => exact SameStaging.refl s

/-- A transaction of an instruction without an exchange leaves staging and latches, a failed one too. -/
theorem OnCourse.tick_sameStaging {i : Instr} {s : State} (h : OnCourse i s) (hx : i.op.exchanges = false) (a : Answer) :
    SameStaging s (Machine.tick s a) := by
  cases hs : s.seq with
  | run op k p =>
    obtain ⟨hop, hp⟩ := h op k p hs
    have hx' : op.exchanges = false := hop.exchanges.trans hx
    cases a with
    | done v =>
      rw [tick_done hs]
      exact advance_sameStaging hp hx' (s.record (request s op p) v) (k + 1) v
    | failed =>
      rw [tick_failed hs, State.releaseKey_keyless _ (Op.keyless_of_no_exchange hx')]
      exact SameStaging.refl s
  | idle => rw [tick_rest (by simp [State.running, hs])]; exact SameStaging.refl s
  | fault => rw [tick_rest (by simp [State.running, hs])]; exact SameStaging.refl s

/-- Such an instruction starts without staging or latching anything. -/
theorem startOf_sameStaging {i : Instr} (hx : i.op.exchanges = false) (s : State) :
    SameStaging s (startOf i s) ∧ (startOf i s).tmp = s.tmp := by
  cases i with
  | init => exact ⟨SameStaging.refl s, rfl⟩
  | deauthenticate => exact ⟨SameStaging.refl s, rfl⟩
  | rdreg a d =>
    change SameStaging s (startRdreg a s) ∧ (startRdreg a s).tmp = s.tmp
    obtain ⟨-, h⟩ | ⟨-, h⟩ := startRdreg_cases a s <;> rw [h] <;> exact ⟨SameStaging.refl s, rfl⟩
  | wrreg a v =>
    change SameStaging s (startWrreg a v s) ∧ (startWrreg a v s).tmp = s.tmp
    obtain ⟨-, h⟩ | ⟨-, h⟩ := startWrreg_cases a v s <;> rw [h] <;> exact ⟨SameStaging.refl s, rfl⟩
  | cmdIdle => exact ⟨SameStaging.refl s, rfl⟩
  | cmdCalcCrc => exact ⟨SameStaging.refl s, rfl⟩
  | cmdTransceive => exact ⟨SameStaging.refl s, rfl⟩
  | cmdMfAuthent => exact ⟨SameStaging.refl s, rfl⟩
  | cmdSoftReset => exact ⟨SameStaging.refl s, rfl⟩
  | _ => cases hx

/-- What an instruction without an exchange leads to has staging and latches as they were. -/
theorem reaches_sameStaging {i : Instr} {s t : State} (hx : i.op.exchanges = false) (h : Reaches i s t) :
    SameStaging s t := by
  have hstart (ha : s.Accepting) : OnCourse i (startOf i s) ∧ SameStaging s (startOf i s) :=
    ⟨startOf_onCourse i ha.1, (startOf_sameStaging hx s).1⟩
  have htick (u : State) (a : Answer) (_ : u.running = true) (hu : OnCourse i u ∧ SameStaging s u) :
      OnCourse i (tick u a) ∧ SameStaging s (tick u a) :=
    ⟨hu.1.tick a, hu.2.trans (hu.1.tick_sameStaging hx a)⟩
  obtain ⟨why, rfl⟩ | ⟨-, hsame⟩ := reaches_induction h hstart htick (fun u as hu => hu)
  · exact SameStaging.refl s
  · exact hsame

/-! ## Bus words and commands -/

/-- The bus words and the commands are the lone routines without an exchange. -/
theorem Instr.op_of_lone {i : Instr} (h : i.port = .bus ∨ i.port = .command) :
    i.op = .busTransaction ∨ i.op = .command := by
  cases i with
  | rdreg a d => exact .inl rfl
  | wrreg a v => exact .inl rfl
  | cmdIdle => exact .inr rfl
  | cmdCalcCrc => exact .inr rfl
  | cmdTransceive => exact .inr rfl
  | cmdMfAuthent => exact .inr rfl
  | cmdSoftReset => exact .inr rfl
  | _ => simp [Instr.port] at h

theorem Instr.no_exchange_of_lone {i : Instr} (h : i.port = .bus ∨ i.port = .command) : i.op.exchanges = false := by
  obtain ho | ho := Instr.op_of_lone h <;> rw [ho] <;> rfl

/-- Their one transaction does not use `E.TMP` (R140). -/
theorem OnCourse.tick_tmp {i : Instr} {s : State} (h : OnCourse i s) (hl : i.port = .bus ∨ i.port = .command)
    (a : Answer) : (Machine.tick s a).tmp = s.tmp := by
  have hx := Instr.no_exchange_of_lone hl
  cases hs : s.seq with
  | run op k p =>
    obtain ⟨hop, hp⟩ := h op k p hs
    have hx' : op.exchanges = false := hop.exchanges.trans hx
    cases a with
    | done v =>
      rw [tick_done hs]
      cases p with
      | init q =>
        obtain rfl : i = .init := hp
        simp [Instr.port] at hl
      | framing => simp [(Op.framedFrame_length hp s.cfg).1] at hx'
      | crc q => exact absurd (Op.no_crc_of_no_exchange hx') hp
      | run q => simp [show op.exchanges = true from hp] at hx'
      | deauthRead =>
        obtain rfl : i = .deauthenticate := hp
        simp [Instr.port] at hl
      | _ => rfl
    | failed => rw [tick_failed hs, State.releaseKey_keyless _ (Op.keyless_of_no_exchange hx')]; rfl
  | idle => rw [tick_rest (by simp [State.running, hs])]
  | fault => rw [tick_rest (by simp [State.running, hs])]

theorem reaches_tmp {i : Instr} {s t : State} (hl : i.port = .bus ∨ i.port = .command) (h : Reaches i s t) :
    t.tmp = s.tmp := by
  have hstart (ha : s.Accepting) : OnCourse i (startOf i s) ∧ (startOf i s).tmp = s.tmp :=
    ⟨startOf_onCourse i ha.1, (startOf_sameStaging (Instr.no_exchange_of_lone hl) s).2⟩
  have htick (u : State) (a : Answer) (_ : u.running = true) (hu : OnCourse i u ∧ u.tmp = s.tmp) :
      OnCourse i (tick u a) ∧ (tick u a).tmp = s.tmp := ⟨hu.1.tick a, (hu.1.tick_tmp hl a).trans hu.2⟩
  obtain ⟨why, rfl⟩ | ⟨-, htmp⟩ := reaches_induction h hstart htick (fun u as hu => hu)
  · rfl
  · exact htmp

/-! ## Inside `RunCommand` -/

/-- The registers that the end of an exchange leaves: all but the results, the staged frame, and the key of an operation that
took one. -/
abbrev KeptByEnd (op : Op) (s t : State) : Prop :=
  (t.crc = s.crc ∧ t.errV = s.errV ∧ t.irqV = s.irqV) ∧
  (t.blk = s.blk ∧ t.keyB = s.keyB ∧ t.sn = s.sn ∧ t.data = s.data) ∧
  (op.takesKey = false → t.key = s.key)

theorem KeptByEnd.refl (op : Op) (s : State) : KeptByEnd op s s :=
  ⟨⟨rfl, rfl, rfl⟩, ⟨rfl, rfl, rfl, rfl⟩, fun _ => rfl⟩

/-- An operation forgets a key only where it took one. -/
theorem KeptByEnd.releaseKey {op : Op} {s t : State} (h : KeptByEnd op s t) : KeptByEnd op s (t.releaseKey op) := by
  obtain ⟨hpoll, hlatch, hkey⟩ := h
  cases hk : op.takesKey with
  | true =>
    rw [show t.releaseKey op = t.dropKey by simp [State.releaseKey, hk]]
    exact ⟨hpoll, hlatch, fun hf => by simp [hk] at hf⟩
  | false =>
    rw [State.releaseKey_keyless t hk]
    exact ⟨hpoll, hlatch, hkey⟩

theorem endRun_keeps (s : State) (op : Op) (k : Nat) : KeptByEnd op s (s.endRun op k) := by
  cases op with
  | write ph => cases ph <;> simp only [State.endRun, State.endWrite] <;> split <;> exact KeptByEnd.refl _ s
  | scan => simp only [State.endRun, State.endScan]; split <;> exact KeptByEnd.refl _ s
  | identify =>
    simp only [State.endRun, State.endIdentify]
    split
    · split <;> exact KeptByEnd.refl _ s
    · exact KeptByEnd.refl _ s
  | select => simp only [State.endRun, State.endSelect]; split <;> exact KeptByEnd.refl _ s
  | authenticate =>
    refine KeptByEnd.releaseKey (op := .authenticate) (t := s.authVerdict) ?_
    unfold State.authVerdict
    split <;> exact KeptByEnd.refl _ s
  | read =>
    simp only [State.endRun, State.endRead]
    split
    · split <;> exact KeptByEnd.refl _ s
    · exact KeptByEnd.refl _ s
  | exchange kind =>
    refine KeptByEnd.releaseKey (op := .exchange kind) (t := s.exchangeVerdict) ?_
    unfold State.exchangeVerdict
    split <;> exact KeptByEnd.refl _ s
  | _ => exact KeptByEnd.refl _ s

/-- The end of an exchange does not go on with the operation that made it. -/
theorem endRun_seq_ne (s : State) (op : Op) (k k' : Nat) (q : Point) : (s.endRun op k).seq ≠ .run op k' q := by
  intro h
  obtain hs | ⟨rfl, hs⟩ := endRun_seq s op k <;> rw [hs] at h <;> cases h

/-- The registers that no place of `RunCommand` but `q` changes: the polled byte only at the polls (R228), the error byte only
at the error read (R231), the others nowhere. -/
abbrev SameAt (q : RunPoint) (s t : State) : Prop :=
  t.crc = s.crc ∧ (q ≠ .error → t.errV = s.errV) ∧ (q ≠ .poll → t.irqV = s.irqV) ∧
  (t.blk = s.blk ∧ t.keyB = s.keyB ∧ t.sn = s.sn ∧ t.data = s.data) ∧
  (t.txBuf = s.txBuf ∧ t.txLen = s.txLen ∧ t.key = s.key)

theorem SameAt.refl (q : RunPoint) (s : State) : SameAt q s s :=
  ⟨rfl, fun _ => rfl, fun _ => rfl, ⟨rfl, rfl, rfl, rfl⟩, rfl, rfl, rfl⟩

theorem SameAt.poll (s : State) (v : Byte) : SameAt .poll s { s with irqV := v, cnt := s.cnt - 1 } :=
  ⟨rfl, fun _ => rfl, fun h => absurd rfl h, ⟨rfl, rfl, rfl, rfl⟩, rfl, rfl, rfl⟩

theorem SameAt.error (s : State) (v : Byte) : SameAt .error s { s with errV := v } :=
  ⟨rfl, fun h => absurd rfl h, fun _ => rfl, ⟨rfl, rfl, rfl, rfl⟩, rfl, rfl, rfl⟩

/-- What a transaction of `RunCommand` leaves. The staged frame and the key stay while the operation goes on; where the
operation took no key, `E.KEY` stays in any case. -/
abbrev KeptByRun (op : Op) (q : RunPoint) (s t : State) : Prop :=
  t.crc = s.crc ∧ (q ≠ .error → t.errV = s.errV) ∧ (q ≠ .poll → t.irqV = s.irqV) ∧
  t.blk = s.blk ∧ t.keyB = s.keyB ∧ t.sn = s.sn ∧ t.data = s.data ∧ (op.takesKey = false → t.key = s.key) ∧
  (∀ k' p, t.seq = .run op k' p → t.txBuf = s.txBuf ∧ t.txLen = s.txLen ∧ t.key = s.key)

section
variable {op : Op} {q : RunPoint} {s t : State}

/-- Going on keeps what is the same. -/
theorem SameAt.goto (h : SameAt q s t) (k : Nat) (p : Point) : KeptByRun op q s (t.goto op k p) := by
  obtain ⟨hcrc, herr, hirq, ⟨hblk, hkb, hsn, hdata⟩, htx, htl, hkey⟩ := h
  exact ⟨hcrc, herr, hirq, hblk, hkb, hsn, hdata, fun _ => hkey, fun _ _ _ => ⟨htx, htl, hkey⟩⟩

/-- So does the end of the exchange, which leaves the operation. -/
theorem SameAt.endRun (h : SameAt q s t) (k : Nat) : KeptByRun op q s (t.endRun op k) := by
  obtain ⟨hcrc, herr, hirq, ⟨hblk, hkb, hsn, hdata⟩, -, -, hkey⟩ := h
  obtain ⟨⟨ecrc, eerr, eirq⟩, ⟨eblk, ekb, esn, edata⟩, ekey⟩ := endRun_keeps t op k
  exact ⟨ecrc.trans hcrc, fun hq => eerr.trans (herr hq), fun hq => eirq.trans (hirq hq), eblk.trans hblk,
    ekb.trans hkb, esn.trans hsn, edata.trans hdata, fun hk => (ekey hk).trans hkey,
    fun k' p hs => absurd hs (endRun_seq_ne t op k k' p)⟩

theorem SameAt.afterPoll (h : SameAt q s t) (k : Nat) : KeptByRun op q s (afterPoll t op k) := by
  unfold Machine.afterPoll
  split
  · exact SameAt.endRun (t := t.noData .protocolError) h k
  · split <;> exact h.goto k _

theorem SameAt.afterError (h : SameAt q s t) (k : Nat) : KeptByRun op q s (afterError t op k) := by
  unfold Machine.afterError
  split
  · exact SameAt.endRun (t := t.noData .protocolError) h k
  · split
    · exact SameAt.endRun (t := t.noData .noTagError) h k
    · split
      · exact SameAt.goto (t := { t with status := .ok }) h k _
      · exact SameAt.endRun (t := t.noData .ok) h k

theorem SameAt.afterDrain (h : SameAt q s t) (k len i : Nat) : KeptByRun op q s (afterDrain t op k len i) := by
  unfold Machine.afterDrain
  split
  · exact h.goto k _
  · exact SameAt.endRun (t := { t with rxLen := BitVec.ofNat 7 len }) h k

theorem runPush_keeps (s : State) (op : Op) (q : RunPoint) (k i : Nat) : KeptByRun op q s (runPush s op k i) := by
  unfold runPush
  split <;> exact (SameAt.refl q s).goto k _

/-- Where a completed transaction of `RunCommand` leads keeps what such a transaction leaves. -/
theorem runAdvance_keeps (s : State) (op : Op) (q : RunPoint) (k : Nat) (v : Byte) :
    KeptByRun op q s (runAdvance s op k v q) := by
  have next {t : State} (h : SameAt q s t) (p : Point) : KeptByRun op q s (t.goto op k p) := h.goto k p
  cases q with
  | irqRead => exact next (t := { s with tmp := v }) (SameAt.refl _ s) _
  | flushRead => exact next (t := { s with tmp := v }) (SameAt.refl _ s) _
  | idle => exact runPush_keeps s op _ k 0
  | push i => exact runPush_keeps s op _ k (i + 1)
  | start =>
    simp only [runAdvance]
    split
    · exact next (SameAt.refl _ s) _
    · exact next (t := { s with cnt := s.cfg.transceiveBudget }) (SameAt.refl _ s) _
  | sendRead => exact next (t := { s with tmp := v }) (SameAt.refl _ s) _
  | sendWrite => exact next (t := { s with cnt := s.cfg.transceiveBudget }) (SameAt.refl _ s) _
  | poll => exact (SameAt.poll s v).afterPoll k
  | clearRead => exact next (t := { s with tmp := v }) (SameAt.refl _ s) _
  | error => exact (SameAt.error s v).afterError k
  | control lvl =>
    exact next (t := { s with rxBits := BitVec.ofNat 10 (bitCount (clampLevel lvl) (lastBits s.cfg v)) })
      (SameAt.refl _ s) _
  | drain len i => exact SameAt.afterDrain (t := { s with rxBuf := putBytes s.rxBuf i [v] }) (SameAt.refl _ s) k len i
  | _ => exact next (SameAt.refl _ s) _

end

/-! ## Operations without a CRC -/

/-- Outside `calculateCRC` a completed transaction leaves `E.CRC`. -/
theorem advance_crc {p : Point} (hp : ∀ q, p ≠ .crc q) (s : State) (op : Op) (k : Nat) (v : Byte) :
    (advance s op k v p).crc = s.crc := by
  cases p with
  | init q =>
    cases q with
    | antennaTest => simp only [advance, initAdvance]; split <;> rfl
    | _ => rfl
  | framing => simp only [advance, enterRun]; split <;> rfl
  | crc q => exact absurd rfl (hp q)
  | run q =>
    obtain ⟨hcrc, -⟩ := runAdvance_keeps s op q k v
    exact hcrc
  | _ => rfl

/-- `E.CRC` is as it was, unless a bus error made it unspecified (R290). -/
def SameCrc (s t : State) : Prop := t.busFault = false → t.crc = s.crc

/-- A transaction of an instruction without a CRC leaves `E.CRC`. -/
theorem OnCourse.tick_crc {i : Instr} {s t : State} (h : OnCourse i t) (hi : i.op.crcPayload = 0) (hs : SameCrc s t)
    (a : Answer) : SameCrc s (Machine.tick t a) := by
  cases hq : t.seq with
  | run op k p =>
    obtain ⟨hop, hp⟩ := h op k p hq
    cases a with
    | done v =>
      have hcrc : ∀ q, p ≠ .crc q := by
        rintro q rfl
        exact hop.crcPayload hp hi
      obtain ⟨-, -, -, -, -, -, hb⟩ := advance_boundary (t.record (request t op p) v) op (k + 1) v p
      rw [tick_done hq]
      exact fun hf => (advance_crc hcrc _ _ _ _).trans (hs (hb.symm.trans hf))
    | failed =>
      obtain ⟨hlatched, -⟩ := tick_failed_latches ((running_iff t).2 ⟨op, k, p, hq⟩)
      exact fun hf => by simp [hlatched] at hf
  | idle => rwa [tick_rest (by simp [State.running, hq])]
  | fault => rwa [tick_rest (by simp [State.running, hq])]

/-- No acceptance computes a CRC. -/
theorem startOf_crc (i : Instr) (s : State) : (startOf i s).crc = s.crc := by
  cases i with
  | rdreg a d =>
    change (startRdreg a s).crc = s.crc
    obtain ⟨-, h⟩ | ⟨-, h⟩ := startRdreg_cases a s <;> rw [h] <;> rfl
  | wrreg a v =>
    change (startWrreg a v s).crc = s.crc
    obtain ⟨-, h⟩ | ⟨-, h⟩ := startWrreg_cases a v s <;> rw [h] <;> rfl
  | _ => rfl

theorem reaches_crc {i : Instr} {s t : State} (hi : i.op.crcPayload = 0) (h : Reaches i s t) : SameCrc s t := by
  have hstart (ha : s.Accepting) : OnCourse i (startOf i s) ∧ SameCrc s (startOf i s) :=
    ⟨startOf_onCourse i ha.1, fun _ => startOf_crc i s⟩
  have htick (u : State) (a : Answer) (_ : u.running = true) (hu : OnCourse i u ∧ SameCrc s u) :
      OnCourse i (tick u a) ∧ SameCrc s (tick u a) := ⟨hu.1.tick a, hu.1.tick_crc hi hu.2 a⟩
  obtain ⟨why, rfl⟩ | ⟨-, hcrc⟩ := reaches_induction h hstart htick (fun u as hu => hu)
  · exact fun _ => rfl
  · exact hcrc

/-- SELECT, READ and WRITE alone ask for a CRC (R262). -/
theorem Instr.no_crc {i : Instr} (hs : ∀ sn, i ≠ .select sn) (hr : ∀ b, i ≠ .read b) (hw : ∀ b d, i ≠ .write b d) :
    i.op.crcPayload = 0 := by
  cases i with
  | select sn => exact absurd rfl (hs sn)
  | read blk => exact absurd rfl (hr blk)
  | write blk data => exact absurd rfl (hw blk data)
  | _ => rfl

/-! ## The frames together -/

/-- Settles O60: along a run by the places the instruction comes to, inside `RunCommand` by its cases. -/
theorem operationsLeaveTheOtherRegisters : Obligations.OperationsLeaveTheOtherRegisters := by
  refine ⟨fun i s t h => ⟨fun hi => ?_, fun hl => ?_, fun hs hr hw => ?_⟩, fun s op k p v hs => ?_⟩
  · have hx : i.op.exchanges = false := by
      obtain rfl | rfl : i = .init ∨ i = .deauthenticate := by simpa using hi
      · rfl
      · rfl
    obtain ⟨⟨htx, htl, hcnt, hirq, herr⟩, hlatch⟩ := reaches_sameStaging hx h
    exact ⟨htx, htl, hcnt, hirq, herr, hlatch⟩
  · obtain ⟨⟨htx, htl, hcnt, hirq, herr⟩, -⟩ := reaches_sameStaging (Instr.no_exchange_of_lone hl) h
    exact ⟨htx, htl, hcnt, hirq, herr, reaches_tmp hl h⟩
  · exact reaches_crc (Instr.no_crc hs hr hw) h
  · rw [tick_done hs]
    exact runAdvance_keeps (s.record (request s op (.run p)) v) op p (k + 1) v

end Sys2Proof.Machine
end

section
/-! PROOF. The two bus words run by themselves (R141, R142). -/

namespace Sys2Proof.Machine

/-- A run whose next transaction is its last takes one answer and leaves the rest. -/
theorem resume_single {s : State} {a : Answer} {rest : List Answer} (ha : s.answers = a :: rest)
    (hrun : s.running = true) (hend : (tick s a).running = false) : s.resume = (tick s a).withTape rest := by
  rw [State.resume, ha, drive_cons hrun, drive_rest hend]
  rfl

section
variable {s : State} {op : Op} {p : Point} {r : Request} {rest : List Answer}

/-- A lone routine whose one transaction completes: it is recorded, the host is told, and the engine is at rest as before. -/
theorem resume_lone_done {v : Byte} {x : Reply} (hs : s.seq = .idle) (ha : s.answers = .done v :: rest)
    (hreq : request (s.enterOp op p) op p = r) (hadv : ∀ t k, advance t op k v p = t.finishLone x) :
    (s.enterOp op p).resume =
      { s with reply := x, answers := rest, events := r.event v :: s.events, mem := r.effect s.mem } := by
  have htick : tick (s.enterOp op p) (.done v) = ((s.enterOp op p).record r v).finishLone x := by
    rw [tick_done rfl, hadv, hreq]
  rw [resume_single (s := s.enterOp op p) (rest := rest) ha rfl (by rw [htick]; rfl), htick]
  change { s with seq := .idle, reply := x, answers := rest, events := r.event v :: s.events, mem := r.effect s.mem } = _
  rw [← hs]

/-- A lone routine whose one transaction fails: BusError at that transaction (R290). -/
theorem resume_lone_failed (hk : op.takesKey = false) (ha : s.answers = .failed :: rest)
    (hreq : request (s.enterOp op p) op p = r) :
    (s.enterOp op p).resume = ((s.enterOp op p).takeBusError r).withTape rest := by
  have htick : tick (s.enterOp op p) .failed = (s.enterOp op p).takeBusError r := by
    rw [tick_failed rfl, State.releaseKey_keyless _ hk, hreq]
  rw [resume_single (s := s.enterOp op p) (rest := rest) ha rfl (by rw [htick]; rfl), htick]

end

/-- A bus word that writes where R59, R71, R105 and R304 allow it waits at its one write; any other is turned away. -/
theorem exec_wrreg {s : State} (h : s.Accepting) (a v : Byte) :
    (s.cfg.writeOk a v = true → exec (.wrreg a v) s = .next (s.enterOp .busTransaction (.busWrite a v))) ∧
    (s.cfg.writeOk a v = false → exec (.wrreg a v) s = .next (s.turnAway (.illegal .notAccessed))) := by
  have hexec : exec (.wrreg a v) s = .next (startWrreg a v s) := launch_accepting h _
  obtain ⟨hacc, hst⟩ | ⟨hacc, hst⟩ := startWrreg_cases a v s
  · have hok : s.cfg.writeOk a v = true := hacc
    exact ⟨fun _ => by rw [hexec, hst], fun hno => by simp [hok] at hno⟩
  · have hno : s.cfg.writeOk a v = false := hacc
    exact ⟨fun hok => by simp [hno] at hok, fun _ => by rw [hexec, hst]⟩

/-- A bus word that reads where R59 and R71 allow it waits at its one read; any other is turned away. -/
theorem exec_rdreg {s : State} (h : s.Accepting) (a d : Byte) :
    (s.cfg.readOk a = true → exec (.rdreg a d) s = .next (s.enterOp .busTransaction (.busRead a))) ∧
    (s.cfg.readOk a = false → exec (.rdreg a d) s = .next (s.turnAway (.illegal .notAccessed))) := by
  have hexec : exec (.rdreg a d) s = .next (startRdreg a s) := launch_accepting h _
  obtain ⟨hacc, hst⟩ | ⟨hacc, hst⟩ := startRdreg_cases a s
  · have hok : s.cfg.readOk a = true := hacc
    exact ⟨fun _ => by rw [hexec, hst], fun hno => by simp [hok] at hno⟩
  · have hno : s.cfg.readOk a = false := hacc
    exact ⟨fun hok => by simp [hno] at hok, fun _ => by rw [hexec, hst]⟩

/-- Settles O27: the word is accepted at its one write, whose answer ends it. -/
theorem wrregIsOneWriteTransaction : Obligations.WrregIsOneWriteTransaction := by
  intro s a v rest h
  obtain ⟨hok, hno⟩ := exec_wrreg h a v
  refine ⟨rfl, fun hw => ⟨fun w ha => ⟨_, hok hw, ?_⟩, fun ha => ⟨_, _, hok hw, rfl, ?_⟩⟩, hno⟩
  · exact resume_lone_done (r := .write a v) h.1 ha rfl (fun _ _ => rfl)
  · rw [resume_lone_failed (r := .write a v) rfl ha rfl]
    exact ⟨rfl, rfl, rfl, rfl, rfl⟩

/-- Settles O28: the word is accepted at its one read, whose answer ends it. -/
theorem rdregIsOneReadTransaction : Obligations.RdregIsOneReadTransaction := by
  intro s a d rest h
  obtain ⟨hok, hno⟩ := exec_rdreg h a d
  refine ⟨rfl, fun hr => ⟨fun v ha => ⟨_, hok hr, ?_⟩, fun ha => ⟨_, _, hok hr, rfl, ?_⟩⟩, hno⟩
  · exact resume_lone_done (r := .read a) h.1 ha rfl (fun _ _ => rfl)
  · rw [resume_lone_failed (r := .read a) rfl ha rfl]
    exact ⟨rfl, rfl, rfl, rfl, rfl, rfl⟩

end Sys2Proof.Machine
end

section
/-! PROOF. Refusal while busy (R92, R121, R330), the register space and its history (R73, R74, R95), and answers that come in
pieces (R72, R89). -/

namespace Sys2Proof.Machine

/-! ## Refusal -/

/-- Settles O7: of the four ends of an offer only the two that turn it away are left to an engine that is not in IDLE. -/
theorem busyEngineRefusesWithoutEffect : Obligations.BusyEngineRefusesWithoutEffect := by
  intro i s hs
  rw [exec_eq_launch]
  obtain ⟨hb, hl⟩ | ⟨hb, -, hl⟩ | ⟨⟨hidle, -⟩, -⟩ | ⟨⟨hidle, -⟩, -⟩ := launch_cases s (refusalOf s.cfg i) (startOf i)
  · simp [hl, hb, State.turnAway]
  · simp [hl, hb, State.turnAway]
  · exact absurd hidle hs
  · exact absurd hidle hs

/-! ## The register space and its history -/

/-- The register space as written is what the history says (log entry 20). -/
def State.Recorded (s : State) : Prop := s.mem = Memory.replay s.events

/-- It stays so where neither is touched. -/
theorem State.Recorded.of_boundary {s t : State} (h : s.Recorded) (hb : SameBoundary s t) : t.Recorded := by
  obtain ⟨-, -, -, -, he, hm, -⟩ := hb
  rw [State.Recorded, he, hm]
  exact h

theorem State.Recorded.record {s : State} (h : s.Recorded) (r : Request) (v : Byte) : (s.record r v).Recorded := by
  rw [State.Recorded, State.record_events, State.record_mem, Memory.replay_event, ← h]

theorem State.Recorded.takeBusError {s : State} (h : s.Recorded) (r : Request) : (s.takeBusError r).Recorded := by
  rw [State.Recorded, State.takeBusError_events, State.takeBusError_mem, Memory.replay_failure, ← h]

/-- A transaction changes the register space as its own entry says, completed or failed. -/
theorem State.Recorded.tick {s : State} (h : s.Recorded) (a : Answer) : (tick s a).Recorded := by
  cases hs : s.seq with
  | run op k p =>
    cases a with
    | done v => rw [tick_done hs]; exact (h.record _ v).of_boundary (advance_boundary _ _ _ _ _)
    | failed => rw [tick_failed hs]; exact (h.takeBusError _).of_boundary (releaseKey_boundary _ _)
  | idle => rwa [tick_rest (by simp [State.running, hs])]
  | fault => rwa [tick_rest (by simp [State.running, hs])]

theorem State.Recorded.drawn {s : State} (h : s.Recorded) : s.drawn.Recorded := by
  unfold State.drawn
  split <;> exact h

theorem State.Recorded.proceed {s : State} (h : s.Recorded) : s.proceed.Recorded := by
  unfold State.proceed
  split
  · exact h.drawn.tick _
  · exact h

/-- Settles O17: of the four cases of a step only the next transaction touches either, and it touches both. -/
theorem everyStepKeepsTheRegisterSpaceEqualToItsHistory :
    Obligations.EveryStepKeepsTheRegisterSpaceEqualToItsHistory := by
  intro s t h ht
  obtain ⟨-, hstep⟩ | ⟨-, o, rest, i, -, -, hstep⟩ | ⟨-, o, rest, r, -, -, hstep⟩ | ⟨-, -, hstep⟩ := step_cases s
  · cases hstep.symm.trans ht
    exact h
  · exact State.Recorded.of_boundary (s := { s with inbox := rest }) h (exec_boundary (hstep.symm.trans ht))
  · cases hstep.symm.trans ht
    exact h
  · cases hstep.symm.trans ht
    exact State.Recorded.proceed h

/-! ## Answers in pieces -/

/-- Acceptance leaves the tape as it finds it. -/
theorem startOf_deliver (i : Instr) (s : State) (later : List Answer) :
    startOf i (s.deliver later) = (startOf i s).deliver later := by
  cases i with
  | rdreg a d =>
    change (if readAllowed s.cfg a then _ else _) = State.deliver (if readAllowed s.cfg a then _ else _) later
    split <;> rfl
  | wrreg a v =>
    change (if writeAllowed s.cfg a v then _ else _) = State.deliver (if writeAllowed s.cfg a v then _ else _) later
    split <;> rfl
  | _ => rfl

/-- An instruction that an accepting engine takes, it takes whatever answers come later. -/
theorem exec_deliver {i : Instr} {s u : State} (ha : s.Accepting) (h : exec i s = .next u) (later : List Answer) :
    exec i (s.deliver later) = .next (u.deliver later) := by
  have hnone : refusalOf s.cfg i = none := by
    cases hr : refusalOf s.cfg i with
    | none => rfl
    | some r => rw [exec_refused ha hr] at h; cases h
  rw [exec_accepting ha h, ← startOf_deliver, exec_eq_launch, State.deliver_cfg, hnone]
  exact launch_accepting (s := s.deliver later) ha _

/-- Going on after more answers have come is the run over all of them. -/
theorem resume_deliver (u : State) (later : List Answer) :
    (u.deliver later).resume = (u.resume.deliver later).resume :=
  calc drive (u.answers ++ later) (u.withTape (u.answers ++ later))
    _ = drive (u.answers ++ later) u := drive_withTape _ _ u
    _ = drive (u.resume.answers ++ later) u.resume := drive_append u.answers later u
    _ = drive (u.resume.answers ++ later) (u.resume.withTape (u.resume.answers ++ later)) :=
      (drive_withTape _ _ u.resume).symm

/-- Settles O20: acceptance leaves the tape, and a run over it may be cut anywhere. -/
theorem answersInPiecesGiveTheSameRun : Obligations.AnswersInPiecesGiveTheSameRun := by
  rintro i s t later ⟨ha, u, hu, rfl⟩
  exact ⟨ha, u.deliver later, exec_deliver ha hu later, resume_deliver u later⟩

end Sys2Proof.Machine
end

section
/-! PROOF. The history, the register space as written, the ghost state and the last reply steer nothing (R95, R214, R335). -/

namespace Sys2Proof.Machine

/-! ## Transactions -/

/-- Two branches that differ at most in what no rule reads. -/
theorem unobserved_ite {c : Prop} [Decidable c] {a b a' b' : State} (h : a.unobserved = a'.unobserved)
    (h' : b.unobserved = b'.unobserved) : (if c then a else b).unobserved = (if c then a' else b').unobserved := by
  split
  · exact h
  · exact h'

theorem releaseKey_unobserved (s : State) (op : Op) :
    (s.unobserved.releaseKey op).unobserved = (s.releaseKey op).unobserved := unobserved_ite rfl rfl

/-- The end of an exchange reads the ghost state for the next ghost state alone. -/
theorem endRun_unobserved (s : State) (op : Op) (k : Nat) :
    (s.unobserved.endRun op k).unobserved = (s.endRun op k).unobserved := by
  cases op with
  | scan => exact unobserved_ite rfl rfl
  | identify => exact unobserved_ite (unobserved_ite rfl rfl) rfl
  | select => exact unobserved_ite rfl rfl
  | authenticate =>
    change (State.dropKey (if s.status = .ok then _ else _)).unobserved =
      (State.dropKey (if s.status = .ok then _ else _)).unobserved
    split <;> rfl
  | read => exact unobserved_ite (unobserved_ite rfl rfl) rfl
  | write ph =>
    cases ph with
    | one => exact unobserved_ite rfl rfl
    | two => exact unobserved_ite rfl rfl
  | exchange kind =>
    have hverdict : s.unobserved.exchangeVerdict.unobserved = s.exchangeVerdict.unobserved := unobserved_ite rfl rfl
    calc (s.unobserved.exchangeVerdict.releaseKey (.exchange kind)).unobserved
      _ = (s.unobserved.exchangeVerdict.unobserved.releaseKey (.exchange kind)).unobserved :=
        (releaseKey_unobserved _ _).symm
      _ = (s.exchangeVerdict.unobserved.releaseKey (.exchange kind)).unobserved := by rw [hverdict]
      _ = (s.exchangeVerdict.releaseKey (.exchange kind)).unobserved := releaseKey_unobserved _ _
  | _ => rfl

theorem enterRun_unobserved (s : State) (op : Op) (k : Nat) :
    (enterRun s.unobserved op k).unobserved = (enterRun s op k).unobserved := unobserved_ite rfl rfl

theorem crcAdvance_unobserved (s : State) (op : Op) (k : Nat) (v : Byte) (q : CrcPoint) :
    (crcAdvance s.unobserved op k v q).unobserved = (crcAdvance s op k v q).unobserved := by
  cases q with
  | flushWrite => exact unobserved_ite rfl rfl
  | push i => exact unobserved_ite rfl rfl
  | poll => exact unobserved_ite rfl rfl
  | resultM => exact enterRun_unobserved ({ s with crc := putBytes s.crc 1 [v] }.appendCrc) op k
  | _ => rfl

theorem afterPoll_unobserved (s : State) (op : Op) (k : Nat) :
    (afterPoll s.unobserved op k).unobserved = (afterPoll s op k).unobserved :=
  unobserved_ite (endRun_unobserved (s.noData .protocolError) op k) (unobserved_ite rfl rfl)

theorem afterError_unobserved (s : State) (op : Op) (k : Nat) :
    (afterError s.unobserved op k).unobserved = (afterError s op k).unobserved :=
  unobserved_ite (endRun_unobserved (s.noData .protocolError) op k)
    (unobserved_ite (endRun_unobserved (s.noData .noTagError) op k)
      (unobserved_ite rfl (endRun_unobserved (s.noData .ok) op k)))

theorem runAdvance_unobserved (s : State) (op : Op) (k : Nat) (v : Byte) (q : RunPoint) :
    (runAdvance s.unobserved op k v q).unobserved = (runAdvance s op k v q).unobserved := by
  cases q with
  | idle => exact unobserved_ite rfl rfl
  | push i => exact unobserved_ite rfl rfl
  | start => exact unobserved_ite rfl rfl
  | poll => exact afterPoll_unobserved { s with irqV := v, cnt := s.cnt - 1 } op k
  | error => exact afterError_unobserved { s with errV := v } op k
  | drain len i =>
    exact unobserved_ite rfl
      (endRun_unobserved { s with rxBuf := putBytes s.rxBuf i [v], rxLen := BitVec.ofNat 7 len } op k)
  | _ => rfl

/-- Where a completed transaction leads does not depend on what no rule reads. -/
theorem advance_unobserved (s : State) (op : Op) (k : Nat) (v : Byte) (p : Point) :
    (advance s.unobserved op k v p).unobserved = (advance s op k v p).unobserved := by
  cases p with
  | init q =>
    cases q with
    | antennaTest => exact unobserved_ite rfl rfl
    | _ => rfl
  | framing => exact enterRun_unobserved (s.stage (op.framedFrame s.cfg)) op k
  | crc q => exact crcAdvance_unobserved s op k v q
  | run q => exact runAdvance_unobserved s op k v q
  | _ => rfl

/-- Nor does the transaction at a place. -/
theorem request_unobserved (s : State) (op : Op) (p : Point) : request s.unobserved op p = request s op p := by
  cases p with
  | init q => cases q <;> rfl
  | crc q => cases q <;> rfl
  | run q => cases q <;> rfl
  | _ => rfl

/-- Nor does a transaction, which adds to the history without reading it. -/
theorem tick_unobserved (s : State) (a : Answer) : (tick s.unobserved a).unobserved = (tick s a).unobserved := by
  cases hs : s.seq with
  | run op k p =>
    have hs' : s.unobserved.seq = .run op k p := hs
    cases a with
    | done v =>
      rw [tick_done hs, tick_done hs', request_unobserved, ← advance_unobserved,
        ← advance_unobserved (s.record (request s op p) v)]
      rfl
    | failed =>
      rw [tick_failed hs, tick_failed hs', request_unobserved, ← releaseKey_unobserved,
        ← releaseKey_unobserved (s.takeBusError (request s op p))]
      rfl
  | idle => rw [tick_rest (s := s) (by simp [State.running, hs]), tick_rest (by simp [State.running, hs])]; rfl
  | fault => rw [tick_rest (s := s) (by simp [State.running, hs]), tick_rest (by simp [State.running, hs])]; rfl

/-! ## Steps and runs of states that differ only there -/

@[simp] theorem State.unobserved_running (s : State) : s.unobserved.running = s.running := rfl

/-- An outcome without what no rule reads. -/
def unobservedOutcome : Host.Outcome State Fault Refusal → Host.Outcome State Fault Refusal
  | .next t => .next t.unobserved
  | .fault f => .fault f
  | .refused r => .refused r

theorem unobservedOutcome_next {o : Host.Outcome State Fault Refusal} {t : State}
    (h : unobservedOutcome (.next t) = unobservedOutcome o) : ∃ t', o = .next t' ∧ t.unobserved = t'.unobserved := by
  cases o with
  | next t' =>
    simp only [unobservedOutcome, Host.Outcome.next.injEq] at h
    exact ⟨t', rfl, h⟩
  | fault f => cases h
  | refused r => cases h

theorem unobservedOutcome_refused {o : Host.Outcome State Fault Refusal} {r : Refusal}
    (h : unobservedOutcome (.refused r) = unobservedOutcome o) : o = .refused r := by
  cases o with
  | next t' => cases h
  | fault f => cases h
  | refused r' => exact h.symm

/-- Acceptance does not read it. -/
theorem startOf_unobserved (i : Instr) (s : State) :
    (startOf i s.unobserved).unobserved = (startOf i s).unobserved := by
  cases i with
  | rdreg a d => exact unobserved_ite rfl rfl
  | wrreg a v => exact unobserved_ite rfl rfl
  | _ => rfl

theorem turnAway_unobserved (s : State) (why : TurnedAway) :
    (s.unobserved.turnAway why).unobserved = (s.turnAway why).unobserved := rfl

/-- Nor does an offer, refused, turned away or accepted. -/
theorem exec_unobserved (i : Instr) (s : State) :
    unobservedOutcome (exec i s.unobserved) = unobservedOutcome (exec i s) := by
  rw [exec_eq_launch, exec_eq_launch]
  obtain ⟨hb, hl⟩ | ⟨hb, hs, hl⟩ | ⟨⟨hs, hb⟩, x, hr, hl⟩ | ⟨⟨hs, hb⟩, hr, hl⟩ :=
    launch_cases s (refusalOf s.cfg i) (startOf i) <;> rw [hl]
  · simp [launch, hb, unobservedOutcome, turnAway_unobserved]
  · simp [launch, hb, hs, unobservedOutcome, turnAway_unobserved]
  · simp [launch, hb, hs, hr, unobservedOutcome]
  · simp [launch, hb, hs, hr, unobservedOutcome, startOf_unobserved]

theorem proceed_unobserved (s : State) : s.unobserved.proceed.unobserved = s.proceed.unobserved := by
  cases hrun : s.running with
  | false => rw [proceed_rest hrun, proceed_rest (by exact hrun)]; rfl
  | true =>
    have hdrawn : s.unobserved.drawn = s.drawn.unobserved := by
      cases ha : s.answers <;> simp only [State.drawn, State.unobserved, ha]
    rw [proceed_run hrun, proceed_run (by exact hrun), hdrawn, tick_unobserved]
    rfl

/-- Nor does a step. -/
theorem step_unobserved (s : State) : unobservedOutcome (step s.unobserved) = unobservedOutcome (step s) := by
  have hnext : s.unobserved.nextThing = s.nextThing := rfl
  unfold step
  rw [hnext]
  cases s.nextThing with
  | reset => rfl
  | run i => exact exec_unobserved i s.taken
  | illegal r => rfl
  | goOn => exact congrArg Host.Outcome.next (proceed_unobserved s)

/-- Nor does a run over any tape. -/
theorem drive_unobserved (as : List Answer) {s s' : State} (h : s.unobserved = s'.unobserved) :
    (drive as s).unobserved = (drive as s').unobserved := by
  induction as generalizing s s' with
  | nil => exact congrArg (State.withTape · []) h
  | cons a as ih =>
    have hrunning : s.running = s'.running := by simpa using congrArg State.running h
    cases hrun : s.running with
    | true =>
      rw [drive_cons hrun, drive_cons (hrunning ▸ hrun)]
      exact ih (by rw [← tick_unobserved, h, tick_unobserved])
    | false =>
      rw [drive_rest hrun, drive_rest (hrunning ▸ hrun)]
      exact congrArg (State.withTape · (a :: as)) h

/-- Settles O24: a step and an offer give the same without what no rule reads, and so does the run, transaction by
transaction. -/
theorem historyAndGhostStateSteerNothing : Obligations.HistoryAndGhostStateSteerNothing := by
  intro s s' h
  have hstep : unobservedOutcome (step s) = unobservedOutcome (step s') := by
    rw [← step_unobserved, h, step_unobserved]
  have hexec (i : Instr) : unobservedOutcome (exec i s) = unobservedOutcome (exec i s') := by
    rw [← exec_unobserved, h, exec_unobserved]
  refine ⟨fun t ht => unobservedOutcome_next (ht ▸ hstep), fun r hr => unobservedOutcome_refused (hr ▸ hstep), ?_⟩
  rintro i t ⟨⟨hs, hb⟩, u, hu, rfl⟩
  obtain ⟨u', hu', hsame⟩ := unobservedOutcome_next (hu ▸ hexec i)
  have hseq : s.seq = s'.seq := by simpa using congrArg State.seq h
  have hfault : s.busFault = s'.busFault := by simpa using congrArg State.busFault h
  have htape : u.answers = u'.answers := by simpa using congrArg State.answers hsame
  refine ⟨u'.resume, ⟨⟨hseq ▸ hs, hfault ▸ hb⟩, u', hu', rfl⟩, ?_⟩
  rw [State.resume, State.resume, htape]
  exact drive_unobserved _ hsame

end Sys2Proof.Machine
end

section
/-! PROOF. The frame of a lone exchange stands in `E.TXBUF` until its key is forgotten (R111 to R117, R300). -/

namespace Sys2Proof.Machine

/-! ## The staged bytes inside `RunCommand` -/

/-- `E.TXBUF` and `E.TXLEN` are as they were. -/
abbrev SameTx (s t : State) : Prop := t.txBuf = s.txBuf ∧ t.txLen = s.txLen

/-- A completed transaction of `RunCommand` goes on with it or ends it, and stages nothing. -/
def GoesOnOrEnds (op : Op) (k : Nat) (s t : State) : Prop :=
  ∃ s', SameTx s s' ∧ ((∃ q, t = s'.goto op k (.run q)) ∨ t = s'.endRun op k)

section
variable {op : Op} {k : Nat} {s : State}

theorem goesOnOrEnds_goto (s' : State) (h : SameTx s s') (q : RunPoint) : GoesOnOrEnds op k s (s'.goto op k (.run q)) :=
  ⟨s', h, .inl ⟨q, rfl⟩⟩

theorem goesOnOrEnds_endRun (s' : State) (h : SameTx s s') : GoesOnOrEnds op k s (s'.endRun op k) := ⟨s', h, .inr rfl⟩

theorem runPush_goesOnOrEnds (i : Nat) : GoesOnOrEnds op k s (runPush s op k i) := by
  unfold runPush
  split <;> exact goesOnOrEnds_goto s ⟨rfl, rfl⟩ _

theorem afterPoll_goesOnOrEnds {s' : State} (h : SameTx s s') : GoesOnOrEnds op k s (afterPoll s' op k) := by
  unfold afterPoll
  split
  · exact goesOnOrEnds_endRun (s'.noData .protocolError) h
  · split <;> exact goesOnOrEnds_goto s' h _

theorem afterError_goesOnOrEnds {s' : State} (h : SameTx s s') : GoesOnOrEnds op k s (afterError s' op k) := by
  unfold afterError
  split
  · exact goesOnOrEnds_endRun (s'.noData .protocolError) h
  · split
    · exact goesOnOrEnds_endRun (s'.noData .noTagError) h
    · split
      · exact goesOnOrEnds_goto { s' with status := .ok } h _
      · exact goesOnOrEnds_endRun (s'.noData .ok) h

theorem afterDrain_goesOnOrEnds {s' : State} (h : SameTx s s') (len i : Nat) :
    GoesOnOrEnds op k s (afterDrain s' op k len i) := by
  unfold afterDrain
  split
  · exact goesOnOrEnds_goto s' h _
  · exact goesOnOrEnds_endRun { s' with rxLen := BitVec.ofNat 7 len } h

/-- Where a completed transaction of `RunCommand` leads. -/
theorem runAdvance_goesOnOrEnds (v : Byte) (q : RunPoint) : GoesOnOrEnds op k s (runAdvance s op k v q) := by
  cases q with
  | irqRead => exact goesOnOrEnds_goto { s with tmp := v } ⟨rfl, rfl⟩ _
  | flushRead => exact goesOnOrEnds_goto { s with tmp := v } ⟨rfl, rfl⟩ _
  | idle => exact runPush_goesOnOrEnds 0
  | push i => exact runPush_goesOnOrEnds (i + 1)
  | start =>
    simp only [runAdvance]
    split
    · exact goesOnOrEnds_goto s ⟨rfl, rfl⟩ _
    · exact goesOnOrEnds_goto { s with cnt := s.cfg.transceiveBudget } ⟨rfl, rfl⟩ _
  | sendRead => exact goesOnOrEnds_goto { s with tmp := v } ⟨rfl, rfl⟩ _
  | sendWrite => exact goesOnOrEnds_goto { s with cnt := s.cfg.transceiveBudget } ⟨rfl, rfl⟩ _
  | poll => exact afterPoll_goesOnOrEnds (s' := { s with irqV := v, cnt := s.cnt - 1 }) ⟨rfl, rfl⟩
  | clearRead => exact goesOnOrEnds_goto { s with tmp := v } ⟨rfl, rfl⟩ _
  | error => exact afterError_goesOnOrEnds (s' := { s with errV := v }) ⟨rfl, rfl⟩
  | control lvl =>
    exact goesOnOrEnds_goto { s with rxBits := BitVec.ofNat 10 (bitCount (clampLevel lvl) (lastBits s.cfg v)) }
      ⟨rfl, rfl⟩ _
  | drain len i => exact afterDrain_goesOnOrEnds (s' := { s with rxBuf := putBytes s.rxBuf i [v] }) ⟨rfl, rfl⟩ len i
  | _ => exact goesOnOrEnds_goto s ⟨rfl, rfl⟩ _

end

/-! ## What a transaction of a lone exchange leaves of its frame -/

/-- The staged bytes stay, but for the key bytes of an operation that took a key and has ended (R300). -/
def FrameKept (op : Op) (s t : State) : Prop :=
  t.txLen = s.txLen ∧
    (t.txBuf = s.txBuf ∨
      (op.takesKey = true ∧ t.running = false ∧ ∃ key : Bytes 6, t.txBuf = putBytes s.txBuf 2 key.toList))

/-- The end of an operation, where it forgets the key it took. -/
theorem frameKept_releaseKey {op : Op} {s t : State} (h : SameTx s t) (ht : t.running = false) :
    FrameKept op s (t.releaseKey op) := by
  obtain ⟨hbuf, hlen⟩ := h
  cases hk : op.takesKey with
  | true =>
    rw [show t.releaseKey op = t.dropKey by simp [State.releaseKey, hk]]
    exact ⟨hlen, .inr ⟨hk, ht, _, by rw [State.dropKey_txBuf, hbuf]⟩⟩
  | false =>
    rw [State.releaseKey_keyless t hk]
    exact ⟨hlen, .inl hbuf⟩

theorem endExchange_frameKept {s s' : State} (h : SameTx s s') (kind : FrameKind) :
    FrameKept (.exchange kind) s (s'.endExchange kind) := by
  refine frameKept_releaseKey (t := s'.exchangeVerdict) ?_ ?_
  · unfold State.exchangeVerdict
    split <;> exact h
  · unfold State.exchangeVerdict
    split <;> rfl

/-- A transaction of a lone exchange goes on with the exchange or ends it, and keeps the frame. -/
theorem tick_exchange {s : State} {kind : FrameKind} {k : Nat} {q : RunPoint}
    (hs : s.seq = .run (.exchange kind) k (.run q)) (a : Answer) :
    ((tick s a).running = false ∨ ∃ k' q', (tick s a).seq = .run (.exchange kind) k' (.run q')) ∧
      FrameKept (.exchange kind) s (tick s a) := by
  cases a with
  | done v =>
    rw [tick_done hs]
    obtain ⟨s', hsame, ⟨q', h⟩ | h⟩ := runAdvance_goesOnOrEnds (op := .exchange kind) (k := k + 1)
      (s := s.record (request s (.exchange kind) (.run q)) v) v q <;>
      rw [advance, h]
    · exact ⟨.inr ⟨k + 1, q', rfl⟩, hsame.2, .inl hsame.1⟩
    · refine ⟨.inl ?_, endExchange_frameKept hsame kind⟩
      obtain hidle | ⟨hop, -⟩ := endRun_seq s' (.exchange kind) (k + 1)
      · simp [State.running, hidle]
      · cases hop
  | failed =>
    obtain ⟨-, hfault⟩ := tick_failed_latches ((running_iff s).2 ⟨_, _, _, hs⟩)
    refine ⟨.inl (by simp [State.running, hfault]), ?_⟩
    rw [tick_failed hs]
    exact frameKept_releaseKey (t := s.takeBusError _) ⟨rfl, rfl⟩ rfl

/-! ## The frame over a run -/

/-- The bytes stand at the start of `E.TXBUF` while the exchange goes on, and after it where it took no key; the bytes beyond
them are those of `s`. -/
structure FrameStands (kind : FrameKind) (bytes : List Byte) (s u : State) : Prop where
  place : u.running = false ∨ ∃ k q, u.seq = .run (.exchange kind) k (.run q)
  length : u.txLen.toNat = bytes.length
  start : ((Op.exchange kind).takesKey = true → u.running = true) → firstBytes u.txBuf bytes.length = bytes
  beyond : ∀ j, bytes.length ≤ j → byteAt u.txBuf j = byteAt s.txBuf j

section
variable {kind : FrameKind} {bytes : List Byte} {s : State}

/-- Staging makes it stand. -/
theorem frameStands_of_staged {u : State} (hplace : u.running = false ∨ ∃ k q, u.seq = .run (.exchange kind) k (.run q))
    (hl : bytes.length ≤ 18) (hlen : u.txLen = BitVec.ofNat 7 bytes.length)
    (hbuf : u.txBuf = putBytes s.txBuf 0 bytes) : FrameStands kind bytes s u where
  place := hplace
  length := by rw [hlen, BitVec.toNat_ofNat]; omega
  start _ := by rw [hbuf, firstBytes_putBytes _ _ (by omega)]
  beyond j hj := by rw [hbuf, byteAt_putBytes _ _ _ _ (by omega), if_neg (by omega)]

/-- A transaction keeps it: the key bytes lie within a frame that has them. -/
theorem FrameStands.tick {u : State} (h : FrameStands kind bytes s u)
    (hkey : (Op.exchange kind).takesKey = true → 8 ≤ bytes.length) (hrun : u.running = true) (a : Answer) :
    FrameStands kind bytes s (tick u a) := by
  obtain hno | ⟨k, q, hs⟩ := h.place
  · simp [hrun] at hno
  · obtain ⟨hplace, hlen, hbuf | ⟨hk, hend, key, hbuf⟩⟩ := tick_exchange hs a
    · exact ⟨hplace, by rw [hlen, h.length], fun _ => by rw [hbuf, h.start fun _ => hrun],
        fun j hj => by rw [hbuf, h.beyond j hj]⟩
    · refine ⟨hplace, by rw [hlen, h.length], fun hgo => by simp [hgo hk] at hend, fun j hj => ?_⟩
      have h8 := hkey hk
      rw [hbuf, byteAt_putBytes _ _ _ _ (by simp), if_neg (by simp; omega), h.beyond j hj]

theorem FrameStands.drive {u : State} (h : FrameStands kind bytes s u)
    (hkey : (Op.exchange kind).takesKey = true → 8 ≤ bytes.length) (as : List Answer) :
    FrameStands kind bytes s (drive as u) :=
  drive_induction (P := FrameStands kind bytes s) (fun _ a hrun hu => hu.tick hkey hrun a)
    (fun _ _ hu => ⟨hu.place, hu.length, hu.start, hu.beyond⟩) as u h

end

/-! ## The eight frames -/

/-- A lone frame is staged at once, or, where a framing write comes first, when that has completed (R111, R112, R338). -/
theorem Instr.frame_cases {i : Instr} (h : i.port = .frame) : ∃ kind, i.op = .exchange kind ∧
    (startOf i = startFrame i kind ∨
      ((i = .request ∨ i = .anticoll) ∧ startOf i = startFramed kind ∧ ∀ c, i.op.framedFrame c = encodeBytes c i)) := by
  cases i with
  | request => exact ⟨.request, rfl, .inr ⟨.inl rfl, rfl, fun _ => rfl⟩⟩
  | anticoll => exact ⟨.anticoll, rfl, .inr ⟨.inr rfl, rfl, fun _ => rfl⟩⟩
  | selectFrame sn crc => exact ⟨.select, rfl, .inl rfl⟩
  | authblkA blk key uid => exact ⟨.auth, rfl, .inl rfl⟩
  | authblkB blk key uid => exact ⟨.auth, rfl, .inl rfl⟩
  | mfRead blk crc => exact ⟨.read, rfl, .inl rfl⟩
  | mfWrite blk crc => exact ⟨.write, rfl, .inl rfl⟩
  | mfWriteData data crc => exact ⟨.writeData, rfl, .inl rfl⟩
  | _ => cases h

/-- The bytes of a lone frame are as many as its exchange sends. -/
theorem encodeBytes_frame_length {i : Instr} (h : i.port = .frame) (c : Config) :
    (encodeBytes c i).length = i.op.frameLength := by
  cases i with
  | request => exact (Laws.EncodedPort.request c).2.1
  | anticoll => exact (Laws.EncodedPort.anticoll c).2.1
  | selectFrame sn crc => exact (Laws.EncodedPort.selectFrame sn crc c).2.1
  | authblkA blk key uid => exact (Laws.EncodedPort.authblkA blk key uid c).2.1
  | authblkB blk key uid => exact (Laws.EncodedPort.authblkB blk key uid c).2.1
  | mfRead blk crc => exact (Laws.EncodedPort.mfRead blk crc c).2.1
  | mfWrite blk crc => exact (Laws.EncodedPort.mfWrite blk crc c).2.1
  | mfWriteData data crc => exact (Laws.EncodedPort.mfWriteData data crc c).2.1
  | _ => cases h

/-- A frame with a key is the operand block of twelve bytes (R114). -/
theorem Op.frameLength_of_takesKey {op : Op} (h : op.takesKey = true) : op.frameLength = 12 := by
  cases op with
  | authenticate => rfl
  | exchange kind =>
    cases kind with
    | auth => rfl
    | _ => cases h
  | _ => cases h

/-- When the framing write has completed the frame is staged (R111, R112). -/
theorem tick_framing_frameStands {kind : FrameKind} {bytes : List Byte} (s : State) (v : Byte) (hl : bytes.length ≤ 18)
    (hb : (Op.exchange kind).framedFrame s.cfg = bytes) :
    FrameStands kind bytes s (tick (startFramed kind s) (.done v)) := by
  have hnext (u : State) : (enterRun u (.exchange kind) 1).running = false ∨
      ∃ k q, (enterRun u (.exchange kind) 1).seq = .run (.exchange kind) k (.run q) := by
    unfold enterRun
    split
    · exact .inl rfl
    · exact .inr ⟨1, .enable, rfl⟩
  have htx (u : State) : SameTx u (enterRun u (.exchange kind) 1) := by
    unfold enterRun
    split <;> exact ⟨rfl, rfl⟩
  rw [tick_done rfl]
  subst hb
  exact frameStands_of_staged (hnext _) hl (htx _).2 (htx _).1

/-- Settles O58: each frame is staged at its start or by its framing write, and every transaction after that keeps it. -/
theorem frameIsStagedByteForByte : Obligations.FrameIsStagedByteForByte := by
  rintro i s t hport ⟨ha, u, hu, rfl⟩ hframed
  obtain ⟨kind, hop, hstart⟩ := Instr.frame_cases hport
  have hlen : (encodeBytes s.cfg i).length = i.op.frameLength := encodeBytes_frame_length hport s.cfg
  have hle : (encodeBytes s.cfg i).length ≤ 18 := hlen ▸ i.op.frameLength_le
  have hkey (hk : (Op.exchange kind).takesKey = true) : 8 ≤ (encodeBytes s.cfg i).length := by
    rw [hlen, hop, Op.frameLength_of_takesKey hk]
    decide
  have hstands : FrameStands kind (encodeBytes s.cfg i) s u.resume := by
    cases exec_accepting ha hu
    obtain h | ⟨hi, h, hb⟩ := hstart
    · rw [h]
      exact (frameStands_of_staged (.inr ⟨0, .enable, rfl⟩) hle rfl rfl).drive hkey _
    · obtain ⟨v, rest, htape⟩ := hframed hi
      have hresume : (startFramed kind s).resume = drive rest (tick (startFramed kind s) (.done v)) := by
        rw [State.resume, show (startFramed kind s).answers = .done v :: rest from htape, drive_cons rfl]
      rw [h, hresume]
      exact (tick_framing_frameStands s v hle (hop ▸ hb s.cfg)).drive hkey rest
  exact ⟨hstands.length, fun hgo => hstands.start (hop ▸ hgo), hstands.beyond⟩

end Sys2Proof.Machine
end

section
/-! PROOF. The decoder and the encoder agree (R101 to R117, R121, R125), and what a step does with a word it reads or cannot
read. -/

namespace Sys2Proof

open Machine

/-! ## The op byte (R106) -/

@[simp] theorem opField_opByte (key : Bool) (op : BitVec 3) : opField (opByte key op) = op := by
  revert key op; decide

@[simp] theorem opKey_opByte (key : Bool) (op : BitVec 3) : opKey (opByte key op) = key := by
  revert key op; decide

@[simp] theorem opReserved_opByte (key : Bool) (op : BitVec 3) : opReserved (opByte key op) = 0 := by
  revert key op; decide

/-- A byte without reserved bits is the op byte of its own fields. -/
theorem opByte_fields {b : Byte} (h : opReserved b = 0) : opByte (opKey b) (opField b) = b := by
  revert b; decide

/-! ## Operand bytes -/

/-- The operands after a buffer of `n` bytes start at byte `n`. -/
@[simp] theorem drop_toList_append {n : Nat} (b : Bytes n) (l : List Byte) : (b.toList ++ l).drop n = l :=
  List.drop_left' (by simp)

/-- Bytes taken into a buffer and out again. -/
theorem toList_toBytes {n : Nat} {l : List Byte} (h : n ≤ l.length) : (toBytes n l).toList = l.take n := by
  apply List.ext_getElem
  · simp [h]
  · intro i h1 h2
    have hi : i < l.length := by simp at h2; omega
    simp [toBytes, hi]

theorem withOperands_eq_ok {n : Nat} {ops : List Byte} {i j : Instr} :
    withOperands n ops i = .ok j ↔ ops.length = n ∧ i = j := by
  unfold withOperands
  split <;> simp [*]

/-- Two buffers that stand one after the other in a list are that list. -/
theorem toBytes_append_toBytes {m n : Nat} {l : List Byte} (h : l.length = m + n) :
    (toBytes m l).toList ++ (toBytes n (l.drop m)).toList = l := by
  rw [toList_toBytes (by omega), toList_toBytes (by simp; omega), List.take_of_length_le (l := l.drop m) (by simp; omega),
    List.take_append_drop]

/-! ## Reading back what the encoder wrote -/

section
variable {c : Config}

/-- The eight host operations are told apart by their codes (R107). -/
theorem decodeHost_encodeBytes (hc : c.hostOp.codes.Nodup) {i : Instr} (hi : i.port = .host) :
    decodeHost c (encodeBytes c i) = .ok i := by
  have hrev : c.hostOp.codes.reverse.Nodup := List.nodup_reverse.2 hc
  simp only [HostCodes.codes, List.reverse_cons, List.reverse_nil, List.nil_append, List.cons_append, List.nodup_cons,
    List.mem_cons, List.not_mem_nil, or_false, not_or] at hc hrev
  cases i with
  | init => simp [encodeBytes, decodeHost, withOperands, hc]
  | scan => simp [encodeBytes, decodeHost, withOperands, hc, hrev]
  | identify => simp [encodeBytes, decodeHost, withOperands, hc, hrev]
  | select sn => simp [encodeBytes, decodeHost, withOperands, hc, hrev]
  | authenticate keyB blk key uid =>
    simp [encodeBytes, decodeHost, withOperands]
  | deauthenticate => simp [encodeBytes, decodeHost, withOperands, hrev]
  | read blk => simp [encodeBytes, decodeHost, withOperands, hrev]
  | write blk data => simp [encodeBytes, decodeHost, withOperands, hrev]
  | _ => cases hi

/-- The direction bit tells a bus read from a bus write (R101). -/
theorem decodeBus_encodeBytes {i : Instr} (hi : i.port = .bus) : decodeBus (encodeBytes c i) = .ok i := by
  cases i with
  | rdreg a d => rfl
  | wrreg a d => rfl
  | _ => cases hi

/-- The five commands are told apart by their codes (R104). -/
theorem decodeCommand_encodeBytes (hc : c.cmd.codes.Nodup) {i : Instr} (hi : i.port = .command) :
    decodeCommand c (encodeBytes c i) = .ok i := by
  have hrev : c.cmd.codes.reverse.Nodup := List.nodup_reverse.2 hc
  simp only [CommandCodes.codes, List.reverse_cons, List.reverse_nil, List.nil_append, List.cons_append, List.nodup_cons,
    List.mem_cons, List.not_mem_nil, or_false, not_or] at hrev
  cases i with
  | cmdIdle => simp [encodeBytes, decodeCommand]
  | cmdCalcCrc => simp [encodeBytes, decodeCommand, hrev]
  | cmdTransceive => simp [encodeBytes, decodeCommand, hrev]
  | cmdMfAuthent => simp [encodeBytes, decodeCommand, hrev]
  | cmdSoftReset => simp [encodeBytes, decodeCommand, hrev]
  | _ => cases hi

/-- The frames are told apart by their lengths, those of one length by their leading bytes (R110 to R117). -/
theorem decodeFrame_encodeBytes (hauth : c.picc.authA ≠ c.picc.authB) (hrw : c.picc.read ≠ c.picc.write) {i : Instr}
    (hi : i.port = .frame) : decodeFrame c (encodeBytes c i) = .ok i := by
  cases i with
  | request => simp [encodeBytes, decodeFrame]
  | anticoll => simp [encodeBytes, decodeFrame]
  | selectFrame sn crc =>
    simp [encodeBytes, decodeFrame]
  | authblkA blk key uid =>
    simp [encodeBytes, authBlockBytes, decodeFrame]
  | authblkB blk key uid =>
    simp [encodeBytes, authBlockBytes, decodeFrame, hauth.symm]
  | mfRead blk crc => simp [encodeBytes, decodeFrame]
  | mfWrite blk crc => simp [encodeBytes, decodeFrame, hrw.symm]
  | mfWriteData data crc =>
    simp [encodeBytes, decodeFrame]
  | _ => cases hi

end

/-- Settles O1: port by port, what tells the instructions of the port apart is what `Config.Wf` keeps distinct. -/
theorem decodeOfEncodeIsTheInstruction : Obligations.DecodeOfEncodeIsTheInstruction := by
  intro c i hw
  obtain ⟨-, hcmd, -, hauth, hrw, hhost, -⟩ := hw
  cases hp : i.port with
  | host => simpa [encode, hp, decode] using decodeHost_encodeBytes hhost hp
  | bus => simpa [encode, hp, decode] using decodeBus_encodeBytes (c := c) hp
  | command => simpa [encode, hp, decode] using decodeCommand_encodeBytes hcmd hp
  | frame => simpa [encode, hp, decode] using decodeFrame_encodeBytes hauth hrw hp

/-! ## A host word and its meaning -/

section
variable {c : Config} {b : Byte} {ops : List Byte}

/-- What is left to see of a host operation read with operands of the right length: its bytes. -/
theorem encodeBytes_of_withOperands {n : Nat} {i j : Instr} (h : withOperands n ops j = .ok i) (hj : j.port = .host)
    (hbytes : ops.length = n → encodeBytes c j = b :: ops) : i.port = .host ∧ encodeBytes c i = b :: ops := by
  obtain ⟨hlen, rfl⟩ := withOperands_eq_ok.1 h
  exact ⟨hj, hbytes hlen⟩

/-- A block address and a buffer of `n` bytes are the operands they were read from. -/
theorem operands_of_block {n : Nat} (h : ops.length = n + 1) :
    ops.getD 0 0 :: (toBytes n (ops.drop 1)).toList = ops := by
  obtain ⟨blk, rest, rfl⟩ := List.exists_cons_of_length_eq_add_one h
  simp [toList_toBytes, show rest.length = n by simpa using h]

/-- So are the operands of AUTHENTICATE. -/
theorem operands_of_authenticate (h : ops.length = 11) :
    ops.getD 0 0 :: ((toBytes 6 (ops.drop 1)).toList ++ (toBytes 4 (ops.drop 7)).toList) = ops := by
  obtain ⟨blk, rest, rfl⟩ := List.exists_cons_of_length_eq_add_one h
  simpa using toBytes_append_toBytes (m := 6) (n := 4) (l := rest) (by simpa using h)

end

/-- Settles O2: the op byte is rebuilt from its fields and the operands from their buffers, branch by branch of the
decoder. -/
theorem hostWordIsTheEncodingOfItsInstruction : Obligations.HostWordIsTheEncodingOfItsInstruction := by
  rintro c (_ | ⟨b, ops⟩) i h
  · cases h
  have nullary {op : BitVec 3} {j : Instr} (hb : b = opByte false op) (hj : j.port = .host)
      (he : encodeBytes c j = [opByte false op]) (h : withOperands 0 ops j = .ok i) :
      i.port = .host ∧ encodeBytes c i = b :: ops :=
    encodeBytes_of_withOperands h hj fun hlen => by rw [he, hb, List.eq_nil_of_length_eq_zero hlen]
  simp only [decode, decodeHost] at h
  split at h
  · cases h
  next hres =>
  have hb : b = opByte (opKey b) (opField b) := (opByte_fields (by simpa using hres)).symm
  split at h
  next hop =>
    rw [hop] at hb
    exact encodeBytes_of_withOperands h rfl fun hlen => congrArg₂ List.cons hb.symm (operands_of_authenticate hlen)
  split at h
  · cases h
  next hkey =>
  rw [Bool.eq_false_of_not_eq_true hkey] at hb
  split at h
  next hop => exact nullary (hop ▸ hb) rfl rfl h
  split at h
  next hop => exact nullary (hop ▸ hb) rfl rfl h
  split at h
  next hop => exact nullary (hop ▸ hb) rfl rfl h
  split at h
  next hop =>
    rw [hop] at hb
    exact encodeBytes_of_withOperands h rfl fun hlen =>
      congrArg₂ List.cons hb.symm (by rw [toList_toBytes hlen.ge, List.take_of_length_le hlen.le])
  split at h
  next hop => exact nullary (hop ▸ hb) rfl rfl h
  split at h
  next hop =>
    rw [hop] at hb
    exact encodeBytes_of_withOperands h rfl fun hlen =>
      congrArg₂ List.cons hb.symm (operands_of_block (n := 0) hlen)
  split at h
  next hop =>
    rw [hop] at hb
    exact encodeBytes_of_withOperands h rfl fun hlen => congrArg₂ List.cons hb.symm (operands_of_block hlen)
  · cases h

/-! ## Words of the test vectors -/

/-- Settles O3: sixteen words, each read by the decoder. -/
theorem wordsOfTheVectorsDecode : Obligations.WordsOfTheVectorsDecode := by
  unfold Obligations.WordsOfTheVectorsDecode
  decide

/-! ## Taking the oldest offer -/

/-- Settles O4: with no reset asked for, the next thing to do is the instruction that the oldest offer decodes to. -/
theorem stepRunsTheDecodedInstruction : Obligations.StepRunsTheDecodedInstruction := by
  intro s o rest i hr hi hd
  simp [step, State.nextThing, State.taken, hr, hi, hd]

/-- An op byte with a reserved bit set, or with the key bit set outside AUTHENTICATE, has no meaning (R106, R121(a)). -/
theorem decodeHost_illegalOp {c : Config} {b : Byte} (ops : List Byte)
    (h : opReserved b ≠ 0 ∨ (opKey b = true ∧ opField b ≠ c.hostOp.authenticate)) :
    decodeHost c (b :: ops) = .error .illegalOp := by
  by_cases hres : opReserved b = 0
  · obtain ⟨hkey, hop⟩ := h.resolve_left (by simp [hres])
    simp [decodeHost, hres, hop, hkey]
  · exact if_pos hres

/-- Settles O6: the decoder rejects the word, and a rejected word changes only what the host is told. -/
theorem illegalOpByteIsRefusedWithoutEffect : Obligations.IllegalOpByteIsRefusedWithoutEffect := by
  intro s b ops rest hr hi h
  have hd : decode s.cfg .host (b :: ops) = .error .illegalOp := decodeHost_illegalOp ops h
  simp [step, State.nextThing, State.taken, State.turnAway, hr, hi, hd]

end Sys2Proof
end

section
/-! PROOF. Acceptance (R108), the operand latches (R108, R300), the writes of the command register (R104, R105). -/

namespace Sys2Proof.Machine

/-! ## Acceptance -/

/-- Nothing is refused under an admitted configuration. -/
theorem refusalOf_none {c : Config} (h : c.Wf) (i : Instr) : refusalOf c i = none := by
  obtain ⟨-, -, -, -, -, -, -, hb, -⟩ := id h
  cases i with
  | read blk => exact sessionRefusal_none h
  | write blk data => exact sessionRefusal_none h
  | init => rfl
  | deauthenticate => rfl
  | rdreg a d => rfl
  | wrreg a v => rfl
  | cmdIdle => rfl
  | cmdCalcCrc => rfl
  | cmdTransceive => rfl
  | cmdMfAuthent => rfl
  | cmdSoftReset => rfl
  | _ => exact pollRefusal_none hb

/-- An accepting engine under an admitted configuration takes every instruction. -/
theorem exec_of_wf {s : State} (ha : s.Accepting) (hw : s.cfg.Wf) (i : Instr) : exec i s = .next (startOf i s) := by
  rw [exec_eq_launch, refusalOf_none hw]
  exact launch_accepting ha _

/-- A well-formed instruction starts at the first transaction of its trace, and tells the host nothing yet. -/
theorem startOf_first {i : Instr} {s : State} (h : i.wellFormed s.cfg = true) :
    ∃ p, (startOf i s).seq = .run i.op 0 p ∧ request (startOf i s) i.op p = i.firstTransaction s.cfg ∧
      (startOf i s).reply = .nothing := by
  cases i with
  | rdreg a d =>
    have hst : startRdreg a s = s.enterOp .busTransaction (.busRead a) := if_pos h
    exact ⟨.busRead a, congrArg State.seq hst, rfl, congrArg State.reply hst⟩
  | wrreg a v =>
    have hst : startWrreg a v s = s.enterOp .busTransaction (.busWrite a v) := if_pos h
    exact ⟨.busWrite a v, congrArg State.seq hst, rfl, congrArg State.reply hst⟩
  | _ => exact ⟨_, rfl, rfl, rfl⟩

/-- Settles O8: the start is accepted as it stands, and touches nothing of the boundary. -/
theorem acceptedInstructionWaitsAtItsFirstTransaction :
    Obligations.AcceptedInstructionWaitsAtItsFirstTransaction := by
  intro i s ha hw hi
  obtain ⟨p, hseq, hreq, hreply⟩ := startOf_first hi
  obtain ⟨hc, htape, -, -, he, hm, -⟩ := startOf_boundary i s
  exact ⟨startOf i s, p, exec_of_wf ha hw i, hseq, hreq, he, hm, hreply, htape, hc⟩

/-! ## The command register -/

/-- An access of R59 writes no byte but the five codes to the command register. -/
theorem Event.commandOk_of_allowed {c : Config} {e : Event} (h : e.allowed c = true) : e.commandOk c = true := by
  have ofWrite {a v : Byte} (hw : c.writeOk a v = true) : commandAllowed c a v = true :=
    (Bool.and_eq_true_iff.1 (Bool.and_eq_true_iff.1 hw).1).2
  cases e with
  | read a v => rfl
  | write a v => exact ofWrite h
  | readFailed a => rfl
  | writeFailed a v => exact ofWrite h

/-- Settles O21: every access of a step is one of R59, and those keep to the five codes. -/
theorem commandRegisterGetsOnlyTheFiveCodes : Obligations.CommandRegisterGetsOnlyTheFiveCodes := by
  intro s t hi h
  obtain ⟨new, hnew, hall⟩ := step_accesses hi h
  exact ⟨new, hnew, fun e he => Event.commandOk_of_allowed (hall e he)⟩

/-- A command row makes one write of its code and is done. -/
theorem resume_startCommand {s : State} {w : Byte} {rest : List Answer} (cmd : Command) (hs : s.seq = .idle)
    (ha : s.answers = .done w :: rest) :
    (startCommand cmd s).resume = { s with
      reply := .completed, answers := rest, events := .write s.cfg.reg.command (s.cfg.cmd.code cmd) :: s.events,
      mem := s.mem.write s.cfg.reg.command.toNat (s.cfg.cmd.code cmd) } :=
  resume_lone_done (r := .write s.cfg.reg.command (s.cfg.cmd.code cmd)) hs ha rfl (fun _ _ => rfl)

/-- Settles O29: each of the five rows is accepted, and its one answer ends it. -/
theorem eachCommandIsOneWriteOfItsCode : Obligations.EachCommandIsOneWriteOfItsCode := by
  intro s w rest h ha ic hic
  have row (cmd : Command) {i : Instr} (hexec : exec i s = launch s none (startCommand cmd)) :
      ∃ u : State, exec i s = .next u ∧ u.resume = { s with
        reply := .completed, answers := rest, events := .write s.cfg.reg.command (s.cfg.cmd.code cmd) :: s.events,
        mem := s.mem.write s.cfg.reg.command.toNat (s.cfg.cmd.code cmd) } :=
    ⟨startCommand cmd s, hexec.trans (launch_accepting h _), resume_startCommand cmd h.1 ha⟩
  simp only [List.mem_cons, List.not_mem_nil, or_false] at hic
  obtain rfl | rfl | rfl | rfl | rfl := hic
  · exact row .idle rfl
  · exact row .calcCrc rfl
  · exact row .transceive rfl
  · exact row .mfAuthent rfl
  · exact row .softReset rfl

/-! ## The operand latches -/

/-- The five operand latches are as they were. -/
abbrev SameLatches (s t : State) : Prop :=
  t.blk = s.blk ∧ t.keyB = s.keyB ∧ t.key = s.key ∧ t.sn = s.sn ∧ t.data = s.data

theorem SameLatches.refl (s : State) : SameLatches s s := ⟨rfl, rfl, rfl, rfl, rfl⟩

/-- The latches are as they were, `E.KEY` where the operation takes no key or has not ended. -/
structure LatchesHeld (op : Op) (s t : State) : Prop where
  others : t.blk = s.blk ∧ t.keyB = s.keyB ∧ t.sn = s.sn ∧ t.data = s.data
  key : op.takesKey = false ∨ t.running = true → t.key = s.key

theorem SameLatches.held {s t : State} (h : SameLatches s t) (op : Op) : LatchesHeld op s t := by
  obtain ⟨hblk, hkb, hkey, hsn, hdata⟩ := h
  exact ⟨⟨hblk, hkb, hsn, hdata⟩, fun _ => hkey⟩

theorem LatchesHeld.trans {op : Op} {s t u : State} (h : LatchesHeld op s t) (hrun : t.running = true)
    (h' : LatchesHeld op t u) : LatchesHeld op s u := by
  obtain ⟨⟨ablk, akb, asn, adata⟩, akey⟩ := h
  obtain ⟨⟨bblk, bkb, bsn, bdata⟩, bkey⟩ := h'
  exact ⟨⟨bblk.trans ablk, bkb.trans akb, bsn.trans asn, bdata.trans adata⟩,
    fun hu => (bkey hu).trans (akey (.inr hrun))⟩

/-- Outside `RunCommand` a completed transaction leaves the latches. -/
theorem advance_latches {p : Point} (hp : ∀ q, p ≠ .run q) (s : State) (op : Op) (k : Nat) (v : Byte) :
    SameLatches s (advance s op k v p) := by
  cases p with
  | init q =>
    cases q with
    | antennaTest => simp only [advance, initAdvance]; split <;> exact SameLatches.refl s
    | _ => exact SameLatches.refl s
  | framing => simp only [advance, enterRun]; split <;> exact SameLatches.refl s
  | crc q =>
    cases q with
    | flushWrite => simp only [advance, crcAdvance, crcPush]; split <;> exact SameLatches.refl s
    | push i => simp only [advance, crcAdvance, crcPush]; split <;> exact SameLatches.refl s
    | poll => simp only [advance, crcAdvance]; split <;> exact SameLatches.refl s
    | resultM => simp only [advance, crcAdvance, enterRun]; split <;> exact SameLatches.refl s
    | _ => exact SameLatches.refl s
  | run q => exact absurd rfl (hp q)
  | _ => exact SameLatches.refl s

/-- Inside it they are held. -/
theorem runAdvance_latches (s : State) (op : Op) (k : Nat) (v : Byte) (q : RunPoint) :
    LatchesHeld op s (runAdvance s op k v q) := by
  obtain ⟨-, -, -, hblk, hkb, hsn, hdata, hkey, hgo⟩ := runAdvance_keeps s op q k v
  refine ⟨⟨hblk, hkb, hsn, hdata⟩, fun h => h.elim hkey fun hrun => ?_⟩
  obtain hidle | ⟨p', hs, -⟩ | ⟨rfl, -⟩ := runAdvance_leads (op := op) (k := k) s v q
  · simp [State.running, hidle] at hrun
  · exact (hgo k p' hs).2.2
  · exact hkey rfl

/-- A bus error holds them too: the operation ends, and its key with it (R290, R300). -/
theorem takeBusError_latches (s : State) (op : Op) (r : Request) :
    LatchesHeld op s ((s.takeBusError r).releaseKey op) := by
  have hkept : KeptByEnd op (s.takeBusError r) ((s.takeBusError r).releaseKey op) := (KeptByEnd.refl op _).releaseKey
  obtain ⟨-, hothers, hkey⟩ := hkept
  have hend : ((s.takeBusError r).releaseKey op).running = false := by simp [State.running]
  exact ⟨hothers, fun h => h.elim hkey fun hrun => by simp [hend] at hrun⟩

theorem advance_latchesHeld (s : State) (op : Op) (k : Nat) (v : Byte) (p : Point) :
    LatchesHeld op s (advance s op k v p) := by
  cases p with
  | run q => exact runAdvance_latches s op k v q
  | _ => exact (advance_latches (fun q h => by cases h) s op k v).held op

/-- So every transaction holds the latches of its operation. -/
theorem tick_latches {s : State} {op : Op} {k : Nat} {p : Point} (hs : s.seq = .run op k p) (a : Answer) :
    LatchesHeld op s (tick s a) := by
  cases a with
  | failed => rw [tick_failed hs]; exact takeBusError_latches s op _
  | done v =>
    rw [tick_done hs]
    obtain ⟨hothers, hkey⟩ := advance_latchesHeld (s.record (request s op p) v) op (k + 1) v p
    exact ⟨hothers, hkey⟩

/-- The operations of an instruction take a key, or none does. -/
theorem Op.goesOnAs.takesKey {first op : Op} (h : first.goesOnAs op) : op.takesKey = first.takesKey := by
  obtain rfl | ⟨rfl, rfl⟩ := h <;> rfl

/-- What an accepting engine comes to holds the latches of the instruction's start. -/
theorem reaches_latches {i : Instr} {s t : State} (ha : s.Accepting) (h : Reaches i s t) :
    LatchesHeld i.op (startOf i s) t := by
  have hstart : OnCourse i (startOf i s) ∧ LatchesHeld i.op (startOf i s) (startOf i s) :=
    ⟨startOf_onCourse i ha.1, (SameLatches.refl _).held _⟩
  have htick (u : State) (a : Answer) (hrun : u.running = true)
      (hu : OnCourse i u ∧ LatchesHeld i.op (startOf i s) u) :
      OnCourse i (tick u a) ∧ LatchesHeld i.op (startOf i s) (tick u a) := by
    obtain ⟨hcourse, hheld⟩ := hu
    obtain ⟨op, k, p, hs⟩ := (running_iff u).1 hrun
    obtain ⟨hop, -⟩ := hcourse op k p hs
    obtain ⟨hothers, hkey⟩ := tick_latches hs a
    exact ⟨hcourse.tick a, hheld.trans hrun ⟨hothers, hop.takesKey ▸ hkey⟩⟩
  rcases h with h | h
  · cases exec_accepting ha h
    exact hstart.2
  · exact (runs_induction h hstart htick fun u as hu => ⟨hu.1, hu.2.others, hu.2.key⟩).2

/-- An instruction that carries no latched operand starts with the latches as they were. -/
theorem startOf_sameLatches {i : Instr} (h : i ∈ [Instr.init, .scan, .identify, .deauthenticate] ∨ i.port ≠ .host)
    (s : State) : SameLatches s (startOf i s) := by
  cases i with
  | select sn => simp [Instr.port] at h
  | authenticate keyB blk key uid => simp [Instr.port] at h
  | read blk => simp [Instr.port] at h
  | write blk data => simp [Instr.port] at h
  | rdreg a d =>
    change SameLatches s (startRdreg a s)
    obtain ⟨-, hst⟩ | ⟨-, hst⟩ := startRdreg_cases a s <;> rw [hst] <;> exact SameLatches.refl s
  | wrreg a v =>
    change SameLatches s (startWrreg a v s)
    obtain ⟨-, hst⟩ | ⟨-, hst⟩ := startWrreg_cases a v s <;> rw [hst] <;> exact SameLatches.refl s
  | _ => exact SameLatches.refl s

/-- AUTHENTICATE latches the four UID bytes and leaves the fifth byte (R108). -/
theorem byteAt_latchUid (sn : Bytes 5) (uid : Bytes 4) (j : Nat) :
    byteAt (latchUid sn uid) j = if j < 4 then byteAt uid j else byteAt sn j := by
  have hput := byteAt_putBytes uid.toList sn 0 j (by simp)
  simpa [latchUid, byteAt] using hput

/-- Settles O9: the start latches the operands, and every transaction of the run holds them. -/
theorem operandLatchesHoldTheOperands : Obligations.OperandLatchesHoldTheOperands := by
  intro s t ha
  refine ⟨fun sn h => ?_, fun k b key uid h => ?_, fun b h => ?_, fun b d h => ?_, fun i hi h => ?_, fun i hi h => ?_⟩
  · obtain ⟨⟨hblk, hkb, hsn, hdata⟩, hkey⟩ := reaches_latches ha h
    exact ⟨hsn, hblk, hkb, hkey (.inl rfl), hdata⟩
  · obtain ⟨⟨hblk, hkb, hsn, hdata⟩, hkey⟩ := reaches_latches ha h
    have hlatched (j : Nat) : byteAt t.sn j = if j < 4 then byteAt uid j else byteAt s.sn j := by
      rw [hsn]
      exact byteAt_latchUid s.sn uid j
    exact ⟨hkb, hblk, fun hrun => hkey (.inr hrun), fun j hj => by rw [hlatched, if_pos hj], hlatched 4, hdata⟩
  · obtain ⟨⟨hblk, hkb, hsn, hdata⟩, hkey⟩ := reaches_latches ha h
    exact ⟨hblk, hkb, hkey (.inl rfl), hsn, hdata⟩
  · obtain ⟨⟨hblk, hkb, hsn, hdata⟩, hkey⟩ := reaches_latches ha h
    exact ⟨hblk, hdata, hkb, hkey (.inl rfl), hsn⟩
  · obtain ⟨⟨hblk, hkb, hsn, hdata⟩, hkey⟩ := reaches_latches ha h
    obtain ⟨sblk, skb, skey, ssn, sdata⟩ := startOf_sameLatches (.inl hi) s
    have hk : i.op.takesKey = false := by
      simp only [List.mem_cons, List.not_mem_nil, or_false] at hi
      obtain rfl | rfl | rfl | rfl := hi <;> rfl
    exact ⟨hblk.trans sblk, hkb.trans skb, (hkey (.inl hk)).trans skey, hsn.trans ssn, hdata.trans sdata⟩
  · obtain ⟨⟨hblk, hkb, hsn, hdata⟩, hkey⟩ := reaches_latches ha h
    obtain ⟨sblk, skb, skey, ssn, sdata⟩ := startOf_sameLatches (.inr hi) s
    exact ⟨hblk.trans sblk, hkb.trans skb, fun hk => (hkey (.inl hk)).trans skey, hsn.trans ssn, hdata.trans sdata⟩

end Sys2Proof.Machine
end

section
/-! SUPPORT. Playing a trace: what the engine asks for, transaction by transaction, and where the answers take it (R220, R228,
R230, R231). -/

namespace Sys2Proof.Machine

/-! ## Playing a trace -/

/-- The engine makes exactly the transactions `es` on any tape that answers them, and stands at `t` with the rest of the
tape to come. -/
structure Plays (s : State) (es : List Event) (t : State) : Prop where
  events : t.events = es.reverse ++ s.events
  run : ∀ as rest, tapeGives as es = true → drive (as ++ rest) s = drive rest t

theorem tapeGives_cons {as : List Answer} {e : Event} {es : List Event} (h : tapeGives as (e :: es) = true) :
    ∃ a as', as = a :: as' ∧ a.gives e = true ∧ tapeGives as' es = true := by
  cases as with
  | nil => cases h
  | cons a as' => exact ⟨a, as', rfl, Bool.and_eq_true_iff.1 h⟩

theorem tapeGives_nil {as : List Answer} (h : tapeGives as [] = true) : as = [] := by
  cases as with
  | nil => rfl
  | cons a as' => cases h

theorem tapeGives_append {es es' : List Event} {as : List Answer} (h : tapeGives as (es ++ es') = true) :
    ∃ bs cs, as = bs ++ cs ∧ tapeGives bs es = true ∧ tapeGives cs es' = true := by
  induction es generalizing as with
  | nil => exact ⟨[], as, rfl, rfl, h⟩
  | cons e es ih =>
    obtain ⟨a, as', rfl, ha, has⟩ := tapeGives_cons h
    obtain ⟨bs, cs, rfl, hbs, hcs⟩ := ih has
    exact ⟨a :: bs, cs, rfl, Bool.and_eq_true_iff.2 ⟨ha, hbs⟩, hcs⟩

theorem Plays.refl (s : State) : Plays s [] s :=
  ⟨rfl, fun as rest h => by rw [tapeGives_nil h]; rfl⟩

theorem Plays.trans {s t u : State} {es es' : List Event} (h : Plays s es t) (h' : Plays t es' u) :
    Plays s (es ++ es') u where
  events := by rw [h'.events, h.events, List.reverse_append, List.append_assoc]
  run as rest hg := by
    obtain ⟨bs, cs, rfl, hbs, hcs⟩ := tapeGives_append hg
    rw [List.append_assoc, h.run bs _ hbs, h'.run cs rest hcs]

/-- A read takes the byte the tape answers. -/
theorem plays_read {s : State} {op : Op} {k : Nat} {p : Point} {a : Byte} (hs : s.seq = .run op k p)
    (hr : request s op p = .read a) (v : Byte) :
    Plays s [.read a v] (advance (s.record (.read a) v) op (k + 1) v p) where
  events := by
    obtain ⟨-, -, -, -, he, -, -⟩ := advance_boundary (s.record (.read a) v) op (k + 1) v p
    exact he
  run as rest hg := by
    obtain ⟨x, as', rfl, hx, has⟩ := tapeGives_cons hg
    obtain rfl := tapeGives_nil has
    have hrun : s.running = true := (running_iff s).2 ⟨op, k, p, hs⟩
    cases x with
    | failed => cases hx
    | done w =>
      obtain rfl : w = v := by simpa [Answer.gives] using hx
      rw [List.singleton_append, drive_cons hrun, tick_done hs, hr]

/-- A write completes, whatever byte the tape answers. -/
theorem plays_write {s t : State} {op : Op} {k : Nat} {p : Point} {a w : Byte} (hs : s.seq = .run op k p)
    (hr : request s op p = .write a w) (hadv : ∀ v, advance (s.record (.write a w) v) op (k + 1) v p = t) :
    Plays s [.write a w] t where
  events := by
    obtain ⟨-, -, -, -, he, -, -⟩ := advance_boundary (s.record (.write a w) 0) op (k + 1) 0 p
    rw [← hadv 0]
    exact he
  run as rest hg := by
    obtain ⟨x, as', rfl, hx, has⟩ := tapeGives_cons hg
    obtain rfl := tapeGives_nil has
    have hrun : s.running = true := (running_iff s).2 ⟨op, k, p, hs⟩
    cases x with
    | failed => cases hx
    | done v => rw [List.singleton_append, drive_cons hrun, tick_done hs, hr, hadv]

/-! ## From place to place of `RunCommand` -/

/-- The state without what `RunCommand` changes while it goes on up to its outcome: the place, `E.CNT`, `E.TMP`, the polled
and the error byte, and the model's records. -/
def State.steady (s : State) : State :=
  { s with seq := .idle, cnt := 0, irqV := 0, errV := 0, tmp := 0, answers := [], events := [], mem := [] }

@[simp] theorem State.steady_cfg (s : State) : s.steady.cfg = s.cfg := rfl
@[simp] theorem State.steady_busFault (s : State) : s.steady.busFault = s.busFault := rfl
@[simp] theorem State.steady_txBuf (s : State) : s.steady.txBuf = s.txBuf := rfl
@[simp] theorem State.steady_txLen (s : State) : s.steady.txLen = s.txLen := rfl
@[simp] theorem State.steady_blk (s : State) : s.steady.blk = s.blk := rfl

/-- The state with a completed write recorded. -/
abbrev State.wrote (s : State) (a w : Byte) : State := s.record (.write a w) 0

/-- Playing a trace inside `RunCommand` leads to its place `q`. -/
structure Arrives (op : Op) (s : State) (es : List Event) (q : RunPoint) (t : State) : Prop where
  plays : Plays s es t
  place : ∃ k, t.seq = .run op k (.run q)
  steady : t.steady = s.steady

section
variable {op : Op} {k : Nat} {s t : State} {es : List Event} {q q' : RunPoint}

theorem arrives_refl (hs : s.seq = .run op k (.run q)) : Arrives op s [] q s := ⟨Plays.refl s, ⟨k, hs⟩, rfl⟩

theorem Arrives.trans {u : State} {es' : List Event} (h : Arrives op s es q t) (h' : Arrives op t es' q' u) :
    Arrives op s (es ++ es') q' u :=
  ⟨h.plays.trans h'.plays, h'.place, h'.steady.trans h.steady⟩

theorem cfg_of_steady (h : t.steady = s.steady) : t.cfg = s.cfg := by simpa using congrArg State.cfg h

theorem blk_of_steady (h : t.steady = s.steady) : t.blk = s.blk := by simpa using congrArg State.blk h

theorem busFault_of_steady (h : t.steady = s.steady) : t.busFault = s.busFault := by
  simpa using congrArg State.busFault h

theorem sameTx_of_steady (h : t.steady = s.steady) : SameTx s t :=
  ⟨by simpa using congrArg State.txBuf h, by simpa using congrArg State.txLen h⟩

/-- A read inside `RunCommand` that goes on, `f` saying what it leaves in the registers. -/
theorem arrives_read (f : State → State) (hs : s.seq = .run op k (.run q)) {a v : Byte}
    (hr : request s op (.run q) = .read a)
    (hadv : runAdvance (s.record (.read a) v) op (k + 1) v q = (f (s.record (.read a) v)).goto op (k + 1) (.run q'))
    (hf : ∀ u, (f u).steady = u.steady) :
    Arrives op s [.read a v] q' ((f (s.record (.read a) v)).goto op (k + 1) (.run q')) where
  plays := hadv ▸ plays_read hs hr v
  place := ⟨k + 1, rfl⟩
  steady := hf (s.record (.read a) v)

/-- A write inside `RunCommand` that goes on. -/
theorem arrives_write (f : State → State) (hs : s.seq = .run op k (.run q)) {a w : Byte}
    (hr : request s op (.run q) = .write a w)
    (hadv : ∀ u v, runAdvance u op (k + 1) v q = (f u).goto op (k + 1) (.run q'))
    (hf : ∀ u, (f u).steady = u.steady) :
    Arrives op s [.write a w] q' ((f (s.wrote a w)).goto op (k + 1) (.run q')) where
  plays := plays_write hs hr fun v => hadv (s.record (.write a w) v) v
  place := ⟨k + 1, rfl⟩
  steady := hf (s.wrote a w)

/-- A use of `SETBITS` or `CLEARBITS` at its two places, `f` saying what its write leaves in the registers (R143, R144). -/
theorem arrives_helper {qw : RunPoint} {a : Byte} {bits : Byte → Byte} (f : State → State)
    (hs : s.seq = .run op k (.run q)) (v : Byte) (hread : request s op (.run q) = .read a)
    (hkeep : ∀ u, runAdvance u op (k + 1) v q = { u with tmp := v }.goto op (k + 1) (.run qw))
    (hwrite : ∀ u, u.cfg = s.cfg → request u op (.run qw) = .write a (bits u.tmp))
    (hnext : ∀ u w, runAdvance u op (k + 2) w qw = (f u).goto op (k + 2) (.run q'))
    (hf : ∀ u, (f u).steady = u.steady) :
    ∃ u, Arrives op s [.read a v, .write a (bits v)] q' ((f u).goto op (k + 2) (.run q')) ∧
      u.cfg = s.cfg ∧ u.irqV = s.irqV :=
  ⟨_, (arrives_read (fun u => { u with tmp := v }) hs hread (hkeep _) fun _ => rfl).trans
    (arrives_write f rfl (hwrite _ rfl) hnext hf), rfl, rfl⟩

/-- Step 1: the request register is cleared (R222). -/
theorem arrives_irqClear (hs : s.seq = .run op k (.run .irqRead)) (irq : Byte) :
    ∃ t, Arrives op s (clearBitsTrace s.cfg.reg.comIrq irq s.cfg.bit.set1) .flushRead t := by
  obtain ⟨u, h, -⟩ := arrives_helper id (bits := fun x => clearBits x s.cfg.bit.set1) hs irq rfl (fun _ => rfl)
    (fun u hu => by simp only [request, runRequest, hu]) (fun _ _ => rfl) fun _ => rfl
  exact ⟨_, h⟩

/-- Step 1: the FIFO is flushed (R222). -/
theorem arrives_flush (hs : s.seq = .run op k (.run .flushRead)) (lvl : Byte) :
    ∃ t, Arrives op s (setBitsTrace s.cfg.reg.fifoLevel lvl s.cfg.bit.flushBuffer) .idle t := by
  obtain ⟨u, h, -⟩ := arrives_helper id (bits := fun x => setBits x s.cfg.bit.flushBuffer) hs lvl rfl (fun _ => rfl)
    (fun u hu => by simp only [request, runRequest, hu]) (fun _ _ => rfl) fun _ => rfl
  exact ⟨_, h⟩

/-- Step 1: start-send is set, and the poll counter with it (R226, R228). -/
theorem arrives_sendSet (hs : s.seq = .run op k (.run .sendRead)) (framing : Byte) :
    ∃ t, Arrives op s (setBitsTrace s.cfg.reg.bitFraming framing s.cfg.bit.startSend) .poll t ∧
      t.cnt = s.cfg.transceiveBudget := by
  obtain ⟨u, h, hc, -⟩ := arrives_helper (fun u => { u with cnt := u.cfg.transceiveBudget })
    (bits := fun x => setBits x s.cfg.bit.startSend) hs framing rfl (fun _ => rfl)
    (fun u hu => by simp only [request, runRequest, hu]) (fun _ _ => rfl) fun _ => rfl
  exact ⟨_, h, congrArg Config.transceiveBudget hc⟩

/-- Step 3: start-send is cleared; the polled byte stays (R230). -/
theorem arrives_sendClear (hs : s.seq = .run op k (.run .clearRead)) (framing : Byte) :
    ∃ t, Arrives op s (clearBitsTrace s.cfg.reg.bitFraming framing s.cfg.bit.startSend) .error t ∧ t.irqV = s.irqV := by
  obtain ⟨u, h, -, hirq⟩ := arrives_helper id (bits := fun x => clearBits x s.cfg.bit.startSend) hs framing rfl
    (fun _ => rfl) (fun u hu => by simp only [request, runRequest, hu]) (fun _ _ => rfl) fun _ => rfl
  exact ⟨_, h, hirq⟩

theorem runPush_steady (s : State) (op : Op) (k i : Nat) : (runPush s op k i).steady = s.steady := by
  unfold runPush
  split <;> rfl

/-- Step 1: a staged byte is pushed (R224). -/
theorem plays_push {i : Nat} (hs : s.seq = .run op k (.run (.push i))) :
    Plays s [.write s.cfg.reg.fifoData (byteAt s.txBuf i)]
      (runPush (s.wrote s.cfg.reg.fifoData (byteAt s.txBuf i)) op (k + 1) (i + 1)) :=
  plays_write hs rfl fun _ => rfl

/-- Step 1: the staged bytes from byte `i` on are pushed (R224, R146). -/
theorem arrives_push (n : Nat) {s : State} {i : Nat} (hn : i + n = s.txLen.toNat) (k : Nat) :
    ∃ t, Arrives op (runPush s op k i) ((List.range' i n).map fun j => .write s.cfg.reg.fifoData (byteAt s.txBuf j))
      .start t := by
  induction n generalizing s i k with
  | zero =>
    have hstart : runPush s op k i = s.goto op k (.run .start) := if_neg (by omega)
    exact ⟨_, by rw [hstart]; exact arrives_refl rfl⟩
  | succ n ih =>
    have hpush : runPush s op k i = s.goto op k (.run (.push i)) := if_pos (by omega)
    have hwrite := plays_push (s := s.goto op k (.run (.push i))) rfl
    obtain ⟨t, ht⟩ := ih (s := (s.goto op k (.run (.push i))).wrote s.cfg.reg.fifoData (byteAt s.txBuf i)) (i := i + 1)
      (by simp; omega) (k + 1)
    refine ⟨t, ?_, ht.place, ?_⟩
    · rw [hpush]
      exact hwrite.trans ht.plays
    · rw [ht.steady, runPush_steady, runPush_steady]
      rfl

/-- Step 1: the running command is cancelled and the frame pushed (R223, R224). -/
theorem arrives_frame (hs : s.seq = .run op k (.run .idle)) (hlen : s.txLen.toNat ≤ 64) :
    ∃ t, Arrives op s ([.write s.cfg.reg.command (s.cfg.cmd.code .idle)] ++
      (firstBytes s.txBuf s.txLen.toNat).map (.write s.cfg.reg.fifoData)) .start t := by
  have hidle : Plays s [.write s.cfg.reg.command (s.cfg.cmd.code .idle)]
      (runPush (s.wrote s.cfg.reg.command (s.cfg.cmd.code .idle)) op (k + 1) 0) := plays_write hs rfl fun _ => rfl
  obtain ⟨t, ht⟩ := arrives_push (op := op) s.txLen.toNat (s := s.wrote s.cfg.reg.command (s.cfg.cmd.code .idle))
    (i := 0) (by simp) (k + 1)
  rw [firstBytes_eq _ _ hlen, List.map_map, List.range_eq_range']
  refine ⟨t, hidle.trans ht.plays, ht.place, ?_⟩
  rw [ht.steady, runPush_steady]
  rfl

/-- Step 1: the command starts; a Transceive goes on with start-send, the other with the poll (R225, R226, R240). -/
theorem arrives_start (hs : s.seq = .run op k (.run .start)) (framing : Byte) :
    ∃ t, Arrives op s ([.write s.cfg.reg.command (s.cfg.cmd.code op.runs)] ++
      if op.runs = .transceive then setBitsTrace s.cfg.reg.bitFraming framing s.cfg.bit.startSend else []) .poll t ∧
      t.cnt = s.cfg.transceiveBudget := by
  by_cases hop : op.runs = .transceive
  · have hwrite := arrives_write id hs (q' := .sendRead) rfl (fun _ _ => if_pos hop) fun _ => rfl
    obtain ⟨t, ht, hcnt⟩ := arrives_sendSet (op := op) (k := k + 1)
      (s := (s.wrote s.cfg.reg.command (s.cfg.cmd.code op.runs)).goto op (k + 1) (.run .sendRead)) rfl framing
    rw [if_pos hop]
    exact ⟨t, hwrite.trans ht, hcnt⟩
  · have hwrite := arrives_write (fun u => { u with cnt := u.cfg.transceiveBudget }) hs (q' := .poll) rfl
      (fun _ _ => if_neg hop) fun _ => rfl
    rw [if_neg hop, List.append_nil]
    exact ⟨_, hwrite, rfl⟩

/-- Step 1 whole (R221 to R226): the poll is reached with its full budget. -/
theorem arrives_startTrace (hs : s.seq = .run op k (.run .enable)) (hlen : s.txLen.toNat ≤ 64) (irq lvl framing : Byte) :
    ∃ t, Arrives op s (startTrace s.cfg op.runs (firstBytes s.txBuf s.txLen.toNat) irq lvl framing) .poll t ∧
      t.cnt = s.cfg.transceiveBudget := by
  have h1 := arrives_write id hs (q' := .irqRead) rfl (fun _ _ => rfl) fun _ => rfl
  obtain ⟨k1, hs1⟩ := h1.place
  obtain ⟨t2, h2⟩ := arrives_irqClear hs1 irq
  rw [cfg_of_steady h1.steady] at h2
  have h12 := h1.trans h2
  obtain ⟨k2, hs2⟩ := h12.place
  obtain ⟨t3, h3⟩ := arrives_flush hs2 lvl
  rw [cfg_of_steady h12.steady] at h3
  have h13 := h12.trans h3
  obtain ⟨k3, hs3⟩ := h13.place
  obtain ⟨hbuf, hl⟩ := sameTx_of_steady h13.steady
  obtain ⟨t4, h4⟩ := arrives_frame hs3 (hl ▸ hlen)
  rw [cfg_of_steady h13.steady, hbuf, hl] at h4
  have h14 := h13.trans h4
  obtain ⟨k4, hs4⟩ := h14.place
  obtain ⟨t5, h5, hcnt⟩ := arrives_start hs4 framing
  rw [cfg_of_steady h14.steady] at h5 hcnt
  have h15 := h14.trans h5
  refine ⟨t5, ?_, hcnt⟩
  simpa only [startTrace, armTrace, List.append_assoc] using h15

/-! ## Steps 2 and 3: the poll and the outcome (R228 to R231) -/

/-- With budget left the polled byte says where the poll goes (R228). -/
theorem afterPoll_of_budget (h : s.cnt ≠ 0) :
    afterPoll s op k = s.goto op k (.run (if pollSees s.cfg op.runs s.irqV then .clearRead else .poll)) := by
  rw [afterPoll, if_neg h]
  split <;> rfl

/-- A poll read with budget left beyond it goes where its byte says. -/
theorem arrives_pollRead (hs : s.seq = .run op k (.run .poll)) (hcnt : 1 < s.cnt.toNat) (v : Byte) :
    ∃ t, Arrives op s [.read s.cfg.reg.comIrq v] (if pollSees s.cfg op.runs v then .clearRead else .poll) t ∧
      t.irqV = v ∧ t.cnt.toNat + 1 = s.cnt.toNat := by
  have hleft : (s.cnt - 1).toNat + 1 = s.cnt.toNat := by
    rw [BitVec.toNat_sub_of_le (by bv_omega)]
    simp; omega
  have hne : s.cnt - 1 ≠ 0 := fun h => by rw [h] at hleft; simp at hleft; omega
  exact ⟨_, arrives_read (fun u => { u with irqV := v, cnt := u.cnt - 1 }) hs rfl (afterPoll_of_budget hne)
    fun _ => rfl, rfl, hleft⟩

/-- A poll whose last read alone shows a terminating bit, with budget left, leads to step 3. -/
theorem arrives_poll (quiet : List Byte) {last : Byte} {s : State} {k : Nat} (hs : s.seq = .run op k (.run .poll))
    (hquiet : ∀ v ∈ quiet, pollSees s.cfg op.runs v = false) (hlast : pollSees s.cfg op.runs last = true)
    (hcnt : quiet.length + 1 < s.cnt.toNat) :
    ∃ t, Arrives op s (pollTrace s.cfg (quiet ++ [last])) .clearRead t ∧ t.irqV = last := by
  induction quiet generalizing s k with
  | nil =>
    obtain ⟨t, ht, hirq, -⟩ := arrives_pollRead hs (by simpa using hcnt) last
    rw [if_pos hlast] at ht
    exact ⟨t, ht, hirq⟩
  | cons v quiet ih =>
    obtain ⟨hv, hquiet⟩ := List.forall_mem_cons.1 hquiet
    simp only [List.length_cons] at hcnt
    obtain ⟨t, ht, -, hleft⟩ := arrives_pollRead hs (by omega) v
    rw [if_neg (by simp [hv])] at ht
    have hc := cfg_of_steady ht.steady
    obtain ⟨k', hs'⟩ := ht.place
    obtain ⟨u, hu, hirq⟩ := ih hs' (hc ▸ hquiet) (hc ▸ hlast) (by omega)
    exact ⟨u, ht.trans (hc ▸ hu), hirq⟩

/-- Step 3: start-send is cleared and the error register read; the polled and the error byte decide (R230 to R232). -/
theorem plays_outcome (hs : s.seq = .run op k (.run .clearRead)) (framing err : Byte) :
    ∃ u k', Plays s (outcomeTrace s.cfg framing err) (afterError u op k') ∧ u.steady = s.steady ∧ u.irqV = s.irqV ∧
      u.errV = err := by
  obtain ⟨t, ht, hirq⟩ := arrives_sendClear hs framing
  obtain ⟨k', hs'⟩ := ht.place
  have hread := plays_read hs' (a := t.cfg.reg.error) rfl err
  rw [cfg_of_steady ht.steady] at hread
  exact ⟨_, _, ht.plays.trans hread, ht.steady, hirq, rfl⟩

/-- `RunCommand` up to the verdict on its error byte, where the poll succeeds (R221 to R231). -/
theorem plays_untilError (hs : s.seq = .run op k (.run .enable)) (hlen : s.txLen.toNat ≤ 64) {quiet : List Byte}
    {last : Byte} (hpoll : PollSucceeds s.cfg op.runs quiet last) (irq lvl framing framing' err : Byte) :
    ∃ u k', Plays s (startTrace s.cfg op.runs (firstBytes s.txBuf s.txLen.toNat) irq lvl framing ++
      pollTrace s.cfg (quiet ++ [last]) ++ outcomeTrace s.cfg framing' err) (afterError u op k') ∧
      u.steady = s.steady ∧ u.irqV = last ∧ u.errV = err := by
  obtain ⟨hquiet, hlast, hbudget⟩ := hpoll
  obtain ⟨t, hstart, hcnt⟩ := arrives_startTrace hs hlen irq lvl framing
  obtain ⟨k1, hs1⟩ := hstart.place
  have hc := cfg_of_steady hstart.steady
  obtain ⟨t', hpolled, hirq⟩ := arrives_poll quiet hs1 (hc ▸ hquiet) (hc ▸ hlast) (hcnt ▸ hbudget)
  have hupto := hstart.trans (hc ▸ hpolled)
  obtain ⟨k2, hs2⟩ := hupto.place
  obtain ⟨u, k', hout, hsteady, hirq', herr⟩ := plays_outcome hs2 framing' err
  rw [cfg_of_steady hupto.steady] at hout
  exact ⟨u, k', hupto.plays.trans hout, hsteady.trans hupto.steady, hirq'.trans hirq, herr⟩

end

end Sys2Proof.Machine
end

section
/-! PROOF. AUTHENTICATE end to end: its operand block in order, and Ok where its exchange succeeds (R114, R196, R197, R240,
R241). -/

namespace Sys2Proof.Machine

/-! ## The operand block -/

/-- The block sent is the operands in order: the first four bytes of the serial number are the UID just latched (R114). -/
theorem authBlock_latchUid (c : Config) (keyB : Bool) (blk : Byte) (key : Bytes 6) (sn : Bytes 5) (uid : Bytes 4) :
    authBlock c keyB blk key (latchUid sn uid) =
      authBlockBytes (if keyB then c.picc.authB else c.picc.authA) blk key uid := by
  have huid : firstBytes (latchUid sn uid) uid.toList.length = uid.toList := firstBytes_putBytes sn uid.toList (by simp)
  rw [Vector.length_toList] at huid
  rw [authBlock, authBlockBytes, show (latchUid sn uid).toList.take 4 = uid.toList from huid]

theorem length_authBlockBytes (cmd blk : Byte) (key : Bytes 6) (uid : Bytes 4) :
    (authBlockBytes cmd blk key uid).length = 12 := by
  simp [authBlockBytes]

section
variable (keyB : Bool) (blk : Byte) (key : Bytes 6) (uid : Bytes 4) (s : State)

/-- AUTHENTICATE stages its operand block. -/
theorem startAuthenticate_txBuf : (startAuthenticate keyB blk key uid s).txBuf =
    putBytes s.txBuf 0 (authBlockBytes (if keyB then s.cfg.picc.authB else s.cfg.picc.authA) blk key uid) :=
  congrArg (putBytes s.txBuf 0) (authBlock_latchUid s.cfg keyB blk key s.sn uid)

theorem startAuthenticate_txLen : (startAuthenticate keyB blk key uid s).txLen = 12 :=
  calc BitVec.ofNat 7 (authBlock s.cfg keyB blk key (latchUid s.sn uid)).length
    _ = BitVec.ofNat 7 12 := by rw [authBlock_latchUid, length_authBlockBytes]

theorem startAuthenticate_frame :
    firstBytes (startAuthenticate keyB blk key uid s).txBuf (startAuthenticate keyB blk key uid s).txLen.toNat =
      authBlockBytes (if keyB then s.cfg.picc.authB else s.cfg.picc.authA) blk key uid := by
  have hfirst := firstBytes_putBytes s.txBuf
    (authBlockBytes (if keyB then s.cfg.picc.authB else s.cfg.picc.authA) blk key uid)
    (by rw [length_authBlockBytes]; decide)
  rw [startAuthenticate_txLen, startAuthenticate_txBuf]
  rwa [length_authBlockBytes] at hfirst

end

/-! ## AUTHENTICATE end to end -/

/-- With no masked error and no missing tag, MFAuthent ends with Ok and no data (R241). -/
theorem afterError_mfAuthent {s : State} {op : Op} (hop : op.runs = .mfAuthent)
    (herr : errorMasked s.cfg s.errV = false) (htag : noTag s.cfg .mfAuthent s.irqV = false) (k : Nat) :
    afterError s op k = (s.noData .ok).endRun op k := by
  simp [afterError, hop, herr, htag]

/-- A trace played to the end of an operation is the run over its tape. -/
theorem Plays.resume {s t : State} {es : List Event} (h : Plays s es t) {as rest : List Answer}
    (hg : tapeGives as es = true) (ha : s.answers = as ++ rest) (hend : t.running = false) :
    s.resume = t.withTape rest := by
  rw [State.resume, ha, h.run as rest hg, drive_rest hend]
  rfl

theorem Plays.trace {s t : State} {es : List Event} (h : Plays s es t) : t.trace = s.trace ++ es := by
  rw [State.trace, h.events, List.reverse_append, List.reverse_reverse, State.trace]

/-- How many transactions an MFAuthent run makes (R238). -/
theorem length_mfAuthentTrace {c : Config} {frame : List Byte} (hlen : frame.length = 12)
    (irq lvl framing framing' err last : Byte) (quiet : List Byte) :
    (startTrace c .mfAuthent frame irq lvl framing ++ pollTrace c (quiet ++ [last]) ++
      outcomeTrace c framing' err).length = 22 + (quiet.length + 1) := by
  simp [startTrace, armTrace, clearBitsTrace, setBitsTrace, pollTrace, outcomeTrace, hlen]
  omega

/-- Settles O55: the trace of `RunCommand` is played from the staged block to its verdict. -/
theorem authenticateEndsOkOnTheBlockInOrder : Obligations.AuthenticateEndsOkOnTheBlockInOrder := by
  intro keyB b key uid s irq lvl0 f0 last f1 err quiet as rest ha hb hpoll herr htag block es hg htape
  have hexec : exec (.authenticate keyB b key uid) s = .next (startAuthenticate keyB b key uid s) := by
    rw [exec_eq_launch, show refusalOf s.cfg (.authenticate keyB b key uid) = none from pollRefusal_none hb]
    exact launch_accepting ha _
  obtain ⟨u, k', hplays, hsteady, rfl, rfl⟩ := plays_untilError (op := .authenticate) (k := 0)
    (s := startAuthenticate keyB b key uid s) rfl (startAuthenticate_txLen keyB b key uid s ▸ by decide) hpoll
    irq lvl0 f0 f1 err
  have hc : u.cfg = s.cfg := (cfg_of_steady hsteady).trans rfl
  have hblk : u.blk = b := (blk_of_steady hsteady).trans rfl
  have hbus : u.busFault = false := (busFault_of_steady hsteady).trans ha.2
  rw [startAuthenticate_frame, afterError_mfAuthent rfl (hc ▸ herr) (hc ▸ htag)] at hplays
  refine ⟨_, _, hexec, hplays.resume hg htape rfl, rfl, hbus, rfl, hplays.trace, ?_, rfl, rfl, rfl, ?_⟩
  · exact length_mfAuthentTrace (length_authBlockBytes _ b key uid) irq lvl0 f0 f1 u.errV u.irqV quiet
  · exact congrArg Ghost.authenticated hblk

end Sys2Proof.Machine
end

section
/-! PROOF. AUTHENTICATE returns a status alone, and the key of an ended operation has left the engine (R114, R197, R198, R300). -/

namespace Sys2Proof.Machine

/-! ## Operations that take a key -/

/-- An operation with a key runs `RunCommand`, or has ended and forgotten the key. -/
def KeyedPlace (op : Op) (s : State) : Prop :=
  (∃ k q, s.seq = .run op k (.run q)) ∨ (s.running = false ∧ ∃ w : State, s = w.dropKey)

/-- What a transaction of such an operation leaves: its place, and of the staged block all but the key bytes. -/
structure KeyedStep (op : Op) (s t : State) : Prop where
  place : KeyedPlace op t
  length : t.txLen = s.txLen
  outside : ∀ j, j < 2 ∨ 8 ≤ j → byteAt t.txBuf j = byteAt s.txBuf j

theorem KeyedStep.trans {op : Op} {s t u : State} (h : KeyedStep op s t) (h' : KeyedStep op t u) : KeyedStep op s u :=
  ⟨h'.place, h'.length.trans h.length, fun j hj => (h'.outside j hj).trans (h.outside j hj)⟩

theorem byteAt_dropKey (s : State) (j : Nat) :
    byteAt s.dropKey.txBuf j =
      if 2 ≤ j ∧ j < 8 then (Config.freeBytes 6 (s.fresh + 1)).toList.getD (j - 2) 0 else byteAt s.txBuf j := by
  rw [State.dropKey_txBuf, byteAt_putBytes _ _ _ _ (by simp)]
  simp

theorem keyedStep_goto {op : Op} {s s' : State} (h : SameTx s s') (k : Nat) (q : RunPoint) :
    KeyedStep op s (s'.goto op k (.run q)) :=
  ⟨.inl ⟨k, q, rfl⟩, h.2, fun j _ => congrArg (byteAt · j) h.1⟩

theorem keyedStep_dropKey {op : Op} {s s' : State} (h : SameTx s s') (hend : s'.running = false) :
    KeyedStep op s s'.dropKey where
  place := .inr ⟨hend, s', rfl⟩
  length := h.2
  outside j hj := by rw [byteAt_dropKey, if_neg (by omega), h.1]

/-- An operation that takes a key is AUTHENTICATE or its operand block. -/
theorem Op.takesKey_cases {op : Op} (h : op.takesKey = true) : op = .authenticate ∨ op = .exchange .auth := by
  cases op with
  | authenticate => exact .inl rfl
  | exchange kind =>
    cases kind with
    | auth => exact .inr rfl
    | _ => cases h
  | _ => cases h

theorem releaseKey_keyed {op : Op} (h : op.takesKey = true) (s : State) : s.releaseKey op = s.dropKey := by
  simp [State.releaseKey, h]

/-- At its end it forgets the key. -/
theorem endRun_keyed {op : Op} (h : op.takesKey = true) (s : State) (k : Nat) :
    ∃ t, SameTx s t ∧ t.running = false ∧ s.endRun op k = t.dropKey := by
  obtain rfl | rfl := Op.takesKey_cases h
  · refine ⟨s.authVerdict, ?_, ?_, rfl⟩
    · unfold State.authVerdict; split <;> exact ⟨rfl, rfl⟩
    · unfold State.authVerdict; split <;> rfl
  · refine ⟨s.exchangeVerdict, ?_, ?_, rfl⟩
    · unfold State.exchangeVerdict; split <;> exact ⟨rfl, rfl⟩
    · unfold State.exchangeVerdict; split <;> rfl

/-- One transaction of such an operation. -/
theorem tick_keyed {op : Op} (hk : op.takesKey = true) {s : State} {k : Nat} {q : RunPoint}
    (hs : s.seq = .run op k (.run q)) (a : Answer) : KeyedStep op s (tick s a) := by
  cases a with
  | failed =>
    rw [tick_failed hs, releaseKey_keyed hk]
    exact keyedStep_dropKey (s' := s.takeBusError _) ⟨rfl, rfl⟩ rfl
  | done v =>
    rw [tick_done hs]
    obtain ⟨s', htx, ⟨q', h⟩ | h⟩ := runAdvance_goesOnOrEnds (op := op) (k := k + 1)
      (s := s.record (request s op (.run q)) v) v q <;>
      rw [advance, h]
    · exact keyedStep_goto (s := s) htx _ _
    · obtain ⟨t, ht, hend, h'⟩ := endRun_keyed hk s' (k + 1)
      rw [h']
      exact keyedStep_dropKey (s := s) ⟨ht.1.trans htx.1, ht.2.trans htx.2⟩ hend

/-! ## The status -/

/-- The places of `RunCommand` before step 4 reads the response back: MFAuthent makes no others (R241). -/
def RunPoint.beforeReadback : RunPoint → Bool
  | .level => false
  | .control _ => false
  | .drain _ _ => false
  | _ => true

/-- A reported status comes without data, and Ok only on an error byte and a polled byte that allow it (R197, R231, R232). -/
def AuthVerdict (s : State) : Prop :=
  ∀ st data bits, s.reply = .result st data bits →
    data = [] ∧ bits = none ∧ s.rxLen = 0 ∧ s.rxBits = 0 ∧
    (st = .ok → errorMasked s.cfg s.errV = false ∧ noTag s.cfg .mfAuthent s.irqV = false ∧
      s.ghost = .authenticated s.blk)

/-- AUTHENTICATE is on its way and has told the host nothing, or has ended with its verdict. -/
def AuthCourse (s : State) : Prop :=
  (∃ k q, s.seq = .run .authenticate k (.run q) ∧ q.beforeReadback = true ∧ s.reply = .nothing) ∨
  (s.running = false ∧ AuthVerdict s)

theorem authCourse_goto {s : State} (hr : s.reply = .nothing) (k : Nat) {q : RunPoint} (hq : q.beforeReadback = true) :
    AuthCourse (s.goto .authenticate k (.run q)) := .inl ⟨k, q, rfl, hq, hr⟩

theorem authCourse_end (s : State) (st : Status)
    (hok : st = .ok → errorMasked s.cfg s.errV = false ∧ noTag s.cfg .mfAuthent s.irqV = false) (k : Nat) :
    AuthCourse ((s.noData st).endRun .authenticate k) := by
  by_cases hst : st = .ok
  · have hend : (s.noData st).endRun .authenticate k =
        ((s.noData st).finishOk [] none (.authenticated s.blk)).dropKey := congrArg State.dropKey (if_pos hst)
    rw [hend]
    refine .inr ⟨rfl, fun st' data bits h => ?_⟩
    cases h
    exact ⟨rfl, rfl, rfl, rfl, fun _ => ⟨(hok hst).1, (hok hst).2, rfl⟩⟩
  · have hend : (s.noData st).endRun .authenticate k =
        ((s.noData st).finishFailed st none s.ghost.failed).dropKey := congrArg State.dropKey (if_neg hst)
    rw [hend]
    refine .inr ⟨rfl, fun st' data bits h => ?_⟩
    cases h
    exact ⟨rfl, rfl, rfl, rfl, fun h => absurd h hst⟩

/-- A completed transaction of AUTHENTICATE stays on that course. -/
theorem runAdvance_authCourse {s : State} (hr : s.reply = .nothing) (k : Nat) (v : Byte) {q : RunPoint}
    (hq : q.beforeReadback = true) : AuthCourse (runAdvance s .authenticate k v q) := by
  have push (i : Nat) : AuthCourse (runPush s .authenticate k i) := by
    unfold runPush
    split <;> exact authCourse_goto hr k rfl
  cases q with
  | idle => exact push 0
  | push i => exact push (i + 1)
  | start => exact authCourse_goto (s := { s with cnt := s.cfg.transceiveBudget }) hr k rfl
  | poll =>
    simp only [runAdvance, afterPoll]
    split
    · exact authCourse_end _ .protocolError (by simp) k
    · split <;> exact authCourse_goto (s := { s with irqV := v, cnt := s.cnt - 1 }) hr k rfl
  | error =>
    simp only [runAdvance, afterError]
    split
    · exact authCourse_end _ .protocolError (by simp) k
    next herr =>
    split
    · exact authCourse_end _ .noTagError (by simp) k
    next htag =>
    rw [if_neg (by decide)]
    exact authCourse_end { s with errV := v } .ok
      (fun _ => ⟨Bool.eq_false_of_not_eq_true herr, Bool.eq_false_of_not_eq_true htag⟩) k
  | level => cases hq
  | control lvl => cases hq
  | drain len i => cases hq
  | _ => exact authCourse_goto hr k rfl

theorem AuthCourse.tick {s : State} (h : AuthCourse s) (hrun : s.running = true) (a : Answer) :
    AuthCourse (Machine.tick s a) := by
  obtain ⟨k, q, hs, hq, hr⟩ | ⟨hno, -⟩ := h
  · cases a with
    | done v =>
      rw [tick_done hs]
      exact runAdvance_authCourse (s := s.record _ v) hr (k + 1) v hq
    | failed =>
      rw [tick_failed hs]
      exact .inr ⟨rfl, fun st data bits h => by cases h⟩
  · simp [hno] at hrun

/-- AUTHENTICATE's run from its staged block: on its course, with the block but for the key bytes. -/
theorem runs_authenticate {keyB : Bool} {blk : Byte} {key : Bytes 6} {uid : Bytes 4} {s t : State}
    (h : Runs (.authenticate keyB blk key uid) s t) :
    AuthCourse t ∧ KeyedStep .authenticate (startAuthenticate keyB blk key uid s) t := by
  have hplace : KeyedPlace .authenticate (startAuthenticate keyB blk key uid s) := .inl ⟨0, .enable, rfl⟩
  refine runs_induction (P := fun u => AuthCourse u ∧ KeyedStep .authenticate (startAuthenticate keyB blk key uid s) u) h
    ⟨.inl ⟨0, .enable, rfl, rfl, rfl⟩, hplace, rfl, fun _ _ => rfl⟩ (fun u a hrun hu => ?_) fun u as hu => ?_
  · obtain ⟨hcourse, hstep⟩ := hu
    obtain ⟨k, q, hs⟩ | ⟨hno, -⟩ := hstep.place
    · exact ⟨hcourse.tick hrun a, hstep.trans (tick_keyed rfl hs a)⟩
    · simp [hno] at hrun
  · obtain ⟨hcourse, hplace, hlen, hout⟩ := hu
    refine ⟨hcourse, hplace.imp_right ?_, hlen, hout⟩
    rintro ⟨hno, w, rfl⟩
    exact ⟨hno, w.withTape as, rfl⟩

/-- The staged block byte by byte. -/
theorem byteAt_startAuthenticate (keyB : Bool) (blk : Byte) (key : Bytes 6) (uid : Bytes 4) (s : State) {j : Nat}
    (hj : j < 12) : byteAt (startAuthenticate keyB blk key uid s).txBuf j =
      (authBlockBytes (if keyB then s.cfg.picc.authB else s.cfg.picc.authA) blk key uid).getD j 0 := by
  have hlen := length_authBlockBytes (if keyB then s.cfg.picc.authB else s.cfg.picc.authA) blk key uid
  rw [startAuthenticate_txBuf, byteAt_putBytes _ _ _ _ (by rw [hlen]; decide), if_pos (by rw [hlen]; omega), Nat.sub_zero]

/-- The last four bytes of an operand block are the UID. -/
theorem getD_authBlockBytes_uid (cmd blk : Byte) (key : Bytes 6) (uid : Bytes 4) (j : Nat) :
    (authBlockBytes cmd blk key uid).getD (8 + j) 0 = byteAt uid j := by
  rw [authBlockBytes, show 8 + j = 6 + j + 1 + 1 by omega, List.getD_cons_succ, List.getD_cons_succ,
    List.getD_append_right _ _ _ _ (by simp)]
  simp [byteAt]

/-- The first clause of O47: a status, no data, and the block but for its key bytes. -/
theorem authenticate_status {keyB : Bool} {blk : Byte} {key : Bytes 6} {uid : Bytes 4} {s t : State} {st : Status}
    {data : List Byte} {bits : Option (BitVec 10)} (h : Runs (.authenticate keyB blk key uid) s t)
    (hreply : t.reply = .result st data bits) :
    data = [] ∧ bits = none ∧ t.rxLen = 0 ∧ t.rxBits = 0 ∧ t.txLen = 12 ∧
    firstBytes t.txBuf 2 = [if keyB then s.cfg.picc.authB else s.cfg.picc.authA, blk] ∧
    (∀ j, j < 4 → byteAt t.txBuf (8 + j) = byteAt uid j) ∧
    (st = .ok → errorMasked s.cfg t.errV = false ∧ noTag s.cfg .mfAuthent t.irqV = false ∧
      t.ghost = .authenticated blk) := by
  obtain ⟨hcourse, -, hlen, hout⟩ := runs_authenticate h
  obtain ⟨hc, -⟩ := noInstructionChangesTheConfiguration _ s t (.inr h)
  obtain ⟨⟨hblk, -⟩, -⟩ := reaches_latches h.1 (.inr h)
  obtain ⟨k, q, -, -, hnothing⟩ | ⟨-, hverdict⟩ := hcourse
  · rw [hnothing] at hreply; cases hreply
  obtain ⟨hdata, hbits, hrx, hrb, hok⟩ := hverdict st data bits hreply
  refine ⟨hdata, hbits, hrx, hrb, hlen.trans (startAuthenticate_txLen _ _ _ _ s), ?_, fun j hj => ?_, fun hst => ?_⟩
  · rw [firstBytes_eq _ _ (by decide), show List.range 2 = [0, 1] from rfl, List.map_cons, List.map_cons, List.map_nil,
      hout 0 (by omega), hout 1 (by omega), byteAt_startAuthenticate _ _ _ _ _ (by omega),
      byteAt_startAuthenticate _ _ _ _ _ (by omega)]
    rfl
  · rw [hout _ (by omega), byteAt_startAuthenticate _ _ _ _ _ (by omega), getD_authBlockBytes_uid]
  · obtain ⟨herr, htag, hghost⟩ := hok hst
    exact ⟨hc ▸ herr, hc ▸ htag, hghost.trans (congrArg Ghost.authenticated hblk)⟩

end Sys2Proof.Machine
end

section
/-! PROOF. Two runs that differ only in the key end alike (R300). -/

namespace Sys2Proof.Machine

/-! ## What a run shows but for the key -/

/-- The state without what holds the key, `E.KEY` and `E.TXBUF`, and without the records of the bus. -/
def State.unkeyed (s : State) : State :=
  { s with key := Vector.replicate 6 0, txBuf := Vector.replicate 64 0, events := [], mem := [] }

@[simp] theorem State.unkeyed_seq (s : State) : s.unkeyed.seq = s.seq := rfl
@[simp] theorem State.unkeyed_cfg (s : State) : s.unkeyed.cfg = s.cfg := rfl
@[simp] theorem State.unkeyed_fresh (s : State) : s.unkeyed.fresh = s.fresh := rfl
@[simp] theorem State.unkeyed_running (s : State) : s.unkeyed.running = s.running := rfl

theorem unkeyed_ite {c : Prop} [Decidable c] {a b a' b' : State} (h : a.unkeyed = a'.unkeyed)
    (h' : b.unkeyed = b'.unkeyed) : (if c then a else b).unkeyed = (if c then a' else b').unkeyed := by
  split
  · exact h
  · exact h'

/-- The end of such an operation does not look at its key. -/
theorem endRun_unkeyed {op : Op} (hk : op.takesKey = true) (s : State) (k : Nat) :
    (s.unkeyed.endRun op k).unkeyed = (s.endRun op k).unkeyed := by
  have hdrop {a b : State} (h : a.unkeyed = b.unkeyed) : a.dropKey.unkeyed = b.dropKey.unkeyed :=
    congrArg (fun u => u.dropKey.unkeyed) h
  obtain rfl | rfl := Op.takesKey_cases hk
  · exact hdrop (unkeyed_ite rfl rfl : s.unkeyed.authVerdict.unkeyed = s.authVerdict.unkeyed)
  · exact hdrop (unkeyed_ite rfl rfl : s.unkeyed.exchangeVerdict.unkeyed = s.exchangeVerdict.unkeyed)

theorem afterPoll_unkeyed {op : Op} (hk : op.takesKey = true) (s : State) (k : Nat) :
    (afterPoll s.unkeyed op k).unkeyed = (afterPoll s op k).unkeyed :=
  unkeyed_ite (endRun_unkeyed hk (s.noData .protocolError) k) (unkeyed_ite rfl rfl)

theorem afterError_unkeyed {op : Op} (hk : op.takesKey = true) (s : State) (k : Nat) :
    (afterError s.unkeyed op k).unkeyed = (afterError s op k).unkeyed :=
  unkeyed_ite (endRun_unkeyed hk (s.noData .protocolError) k)
    (unkeyed_ite (endRun_unkeyed hk (s.noData .noTagError) k)
      (unkeyed_ite rfl (endRun_unkeyed hk (s.noData .ok) k)))

/-- Nor does a completed transaction. -/
theorem runAdvance_unkeyed {op : Op} (hk : op.takesKey = true) (s : State) (k : Nat) (v : Byte) (q : RunPoint) :
    (runAdvance s.unkeyed op k v q).unkeyed = (runAdvance s op k v q).unkeyed := by
  cases q with
  | idle => exact unkeyed_ite rfl rfl
  | push i => exact unkeyed_ite rfl rfl
  | start => exact unkeyed_ite rfl rfl
  | poll => exact afterPoll_unkeyed hk { s with irqV := v, cnt := s.cnt - 1 } k
  | error => exact afterError_unkeyed hk { s with errV := v } k
  | drain len i =>
    exact unkeyed_ite rfl
      (endRun_unkeyed hk { s with rxBuf := putBytes s.rxBuf i [v], rxLen := BitVec.ofNat 7 len } k)
  | _ => rfl

/-- The transaction at a place is the same but for the byte pushed. -/
theorem request_unkeyed (s : State) (op : Op) {q : RunPoint} (hq : ∀ i, q ≠ .push i) :
    request s.unkeyed op (.run q) = request s op (.run q) := by
  cases q with
  | push i => exact absurd rfl (hq i)
  | _ => rfl

/-- So a transaction shows nothing of the key. -/
theorem tick_unkeyed {op : Op} (hk : op.takesKey = true) {s : State} {k : Nat} {q : RunPoint}
    (hs : s.seq = .run op k (.run q)) (a : Answer) : (tick s.unkeyed a).unkeyed = (tick s a).unkeyed := by
  have hs' : s.unkeyed.seq = .run op k (.run q) := hs
  cases a with
  | done v =>
    rw [tick_done hs, tick_done hs', advance, advance, ← runAdvance_unkeyed hk,
      ← runAdvance_unkeyed hk (s.record (request s op (.run q)) v)]
    rfl
  | failed =>
    rw [tick_failed hs, tick_failed hs', releaseKey_keyed hk, releaseKey_keyed hk]
    cases q with
    | _ => rfl

/-! ## The key on the bus -/

theorem Memory.write_write (m : Memory) (a : Nat) (v w : Byte) : (m.write a v).write a w = m.write a w := by
  induction m with
  | nil => simp [Memory.write]
  | cons c m ih =>
    simp only [Memory.write]
    split
    · simp [Memory.write]
    · split
      · simp [Memory.write]
      · simp [Memory.write, *]

theorem Memory.forget_write (m : Memory) (a : Nat) (v : Byte) : (m.write a v).forget a = m.forget a := by
  induction m with
  | nil => simp [Memory.write, Memory.forget]
  | cons c m ih =>
    simp only [Memory.write]
    split
    · simp [Memory.forget]
    · split
      next h => simp [Memory.forget, h]
      · simp only [Memory.forget, List.filter_cons] at ih ⊢
        rw [ih]

/-- The byte last pushed into the FIFO is a key byte: bytes 2 to 7 of the operand block (R114, R224). -/
def State.keyOnBus (s : State) : Bool :=
  match s.seq with
  | .run _ _ (.run (.push i)) => decide (2 < i ∧ i ≤ 8)
  | _ => false

/-- The register space as written, a key byte in the FIFO's data register blotted out. -/
def State.shownMem (s : State) : Memory :=
  if s.keyOnBus then s.mem.write s.cfg.reg.fifoData.toNat 0 else s.mem

theorem shownMem_of_keyOnBus {s : State} (h : s.keyOnBus = true) :
    s.shownMem = s.mem.write s.cfg.reg.fifoData.toNat 0 := by
  simp [State.shownMem, h]

theorem shownMem_of_not_keyOnBus {s : State} (h : s.keyOnBus = false) : s.shownMem = s.mem := by
  simp [State.shownMem, h]

/-- A byte written over the blotted one leaves nothing of it. -/
theorem shownMem_write (s : State) (w : Byte) :
    s.shownMem.write s.cfg.reg.fifoData.toNat w = s.mem.write s.cfg.reg.fifoData.toNat w := by
  unfold State.shownMem
  split
  · exact Memory.write_write _ _ _ _
  · rfl

theorem shownMem_forget (s : State) :
    s.shownMem.forget s.cfg.reg.fifoData.toNat = s.mem.forget s.cfg.reg.fifoData.toNat := by
  unfold State.shownMem
  split
  · exact Memory.forget_write _ _ _
  · rfl

theorem unkeyed_parts {s s' : State} (h : s.unkeyed = s'.unkeyed) :
    s.seq = s'.seq ∧ s.cfg = s'.cfg ∧ s.fresh = s'.fresh :=
  ⟨by simpa using congrArg State.seq h, by simpa using congrArg State.cfg h, by simpa using congrArg State.fresh h⟩

/-- Where the same is on the bus and the register spaces agree, they show the same. -/
theorem shownMem_congr {s s' : State} (h : s.unkeyed = s'.unkeyed) (hm : s.mem = s'.mem) : s.shownMem = s'.shownMem := by
  obtain ⟨hs, hc, -⟩ := unkeyed_parts h
  have hbus : s.keyOnBus = s'.keyOnBus := by rw [State.keyOnBus, State.keyOnBus, hs]
  rw [State.shownMem, State.shownMem, hbus, hm, hc]

/-- The register space after a transaction and its answer. -/
def Request.memAfter (r : Request) : Answer → Memory → Memory
  | .done _, m => r.effect m
  | .failed, m => r.failEffect m

theorem tick_mem {s : State} {op : Op} {k : Nat} {p : Point} (hs : s.seq = .run op k p) (a : Answer) :
    (tick s a).mem = (request s op p).memAfter a s.mem := by
  cases a with
  | done v =>
    obtain ⟨-, -, -, -, -, hm, -⟩ := advance_boundary (s.record (request s op p) v) op (k + 1) v p
    rw [tick_done hs]
    exact hm
  | failed =>
    obtain ⟨-, -, -, -, -, hm, -⟩ := releaseKey_boundary (s.takeBusError (request s op p)) op
    rw [tick_failed hs]
    exact hm

/-- After a key byte is pushed the next byte of the block is next. -/
theorem keyOnBus_tick_push {s : State} {op : Op} {k i : Nat} (hs : s.seq = .run op k (.run (.push i)))
    (hlen : s.txLen = 12) (hi : 2 ≤ i ∧ i < 8) (v : Byte) : (tick s (.done v)).keyOnBus = true := by
  have hmore : i + 1 < s.txLen.toNat := by rw [hlen]; exact Nat.lt_of_lt_of_le (by omega) (by decide : 9 ≤ _)
  have hnext : (tick s (.done v)).seq = .run op (k + 1) (.run (.push (i + 1))) := by
    rw [tick_done hs]
    exact congrArg State.seq (if_pos hmore)
  rw [State.keyOnBus, hnext]
  exact decide_eq_true (by omega)

/-! ## Twin runs -/

/-- Two states of an operation with a key that differ at most in the key. -/
structure Twins (op : Op) (s s' : State) : Prop where
  same : s.unkeyed = s'.unkeyed
  mem : s.shownMem = s'.shownMem
  outside : ∀ j, j < 2 ∨ 8 ≤ j → byteAt s.txBuf j = byteAt s'.txBuf j
  length : s.txLen = 12
  length' : s'.txLen = 12
  place : KeyedPlace op s
  place' : KeyedPlace op s'

/-- A push, completed or failed, shows no key byte in the register space. -/
theorem Twins.push_shownMem {op : Op} {s s' : State} (h : Twins op s s') {k i : Nat}
    (hs : s.seq = .run op k (.run (.push i))) (hs' : s'.seq = .run op k (.run (.push i))) (a : Answer)
    (hsame : (Machine.tick s a).unkeyed = (Machine.tick s' a).unkeyed) :
    (Machine.tick s a).shownMem = (Machine.tick s' a).shownMem := by
  obtain ⟨-, hc, -⟩ := unkeyed_parts h.same
  cases a with
  | failed =>
    refine shownMem_congr hsame ?_
    rw [tick_mem hs, tick_mem hs']
    calc s.mem.forget s.cfg.reg.fifoData.toNat
      _ = s.shownMem.forget s.cfg.reg.fifoData.toNat := (shownMem_forget s).symm
      _ = s'.shownMem.forget s'.cfg.reg.fifoData.toNat := by rw [h.mem, hc]
      _ = s'.mem.forget s'.cfg.reg.fifoData.toNat := shownMem_forget s'
  | done v =>
    have hwrite (w : Byte) : s.mem.write s.cfg.reg.fifoData.toNat w = s'.mem.write s'.cfg.reg.fifoData.toNat w := by
      rw [← shownMem_write s, ← shownMem_write s', h.mem, hc]
    have hm : (Machine.tick s (.done v)).mem = s.mem.write s.cfg.reg.fifoData.toNat (byteAt s.txBuf i) := tick_mem hs _
    have hm' : (Machine.tick s' (.done v)).mem = s'.mem.write s'.cfg.reg.fifoData.toNat (byteAt s'.txBuf i) :=
      tick_mem hs' _
    by_cases hi : 2 ≤ i ∧ i < 8
    · obtain ⟨hcs, -⟩ := tick_outside s (.done v)
      obtain ⟨hcs', -⟩ := tick_outside s' (.done v)
      rw [shownMem_of_keyOnBus (keyOnBus_tick_push hs h.length hi v),
        shownMem_of_keyOnBus (keyOnBus_tick_push hs' h.length' hi v), hm, hm', hcs, hcs', Memory.write_write,
        Memory.write_write, hwrite]
    · refine shownMem_congr hsame ?_
      rw [hm, hm', h.outside i (by omega), hwrite]

theorem keyOnBus_of_not_push {s : State} {op : Op} {k : Nat} {q : RunPoint} (hs : s.seq = .run op k (.run q))
    (hq : ∀ i, q ≠ .push i) : s.keyOnBus = false := by
  cases q with
  | push i => exact absurd rfl (hq i)
  | _ => rw [State.keyOnBus, hs]

/-- Nor does any other transaction. -/
theorem Twins.tick_shownMem {op : Op} {s s' : State} (h : Twins op s s') {k : Nat} {q : RunPoint}
    (hs : s.seq = .run op k (.run q)) (hs' : s'.seq = .run op k (.run q)) (a : Answer)
    (hsame : (Machine.tick s a).unkeyed = (Machine.tick s' a).unkeyed) :
    (Machine.tick s a).shownMem = (Machine.tick s' a).shownMem := by
  by_cases hq : ∃ i, q = .push i
  · obtain ⟨i, rfl⟩ := hq
    exact h.push_shownMem hs hs' a hsame
  · have hne (i : Nat) : q ≠ .push i := fun hi => hq ⟨i, hi⟩
    have hreq : request s op (.run q) = request s' op (.run q) := by
      rw [← request_unkeyed s op hne, h.same, request_unkeyed s' op hne]
    have hmem : s.mem = s'.mem := by
      rw [← shownMem_of_not_keyOnBus (keyOnBus_of_not_push hs hne), h.mem,
        shownMem_of_not_keyOnBus (keyOnBus_of_not_push hs' hne)]
    exact shownMem_congr hsame (by rw [tick_mem hs, tick_mem hs', hreq, hmem])

theorem Twins.tick {op : Op} (hk : op.takesKey = true) {s s' : State} (h : Twins op s s') (hrun : s.running = true)
    (a : Answer) : Twins op (Machine.tick s a) (Machine.tick s' a) := by
  obtain ⟨k, q, hs⟩ | ⟨hno, -⟩ := h.place
  · have hs' : s'.seq = .run op k (.run q) := (unkeyed_parts h.same).1 ▸ hs
    have hsame : (Machine.tick s a).unkeyed = (Machine.tick s' a).unkeyed := by
      rw [← tick_unkeyed hk hs, h.same, tick_unkeyed hk hs']
    obtain ⟨hplace, hlen, hout⟩ := tick_keyed hk hs a
    obtain ⟨hplace', hlen', hout'⟩ := tick_keyed hk hs' a
    exact ⟨hsame, h.tick_shownMem hs hs' a hsame, fun j hj => by rw [hout j hj, hout' j hj, h.outside j hj],
      hlen.trans h.length, hlen'.trans h.length', hplace, hplace'⟩
  · simp [hno] at hrun

theorem KeyedPlace.withTape {op : Op} {s : State} (h : KeyedPlace op s) (as : List Answer) :
    KeyedPlace op (s.withTape as) := by
  refine h.imp_right ?_
  rintro ⟨hno, w, rfl⟩
  exact ⟨hno, w.withTape as, rfl⟩

theorem Twins.withTape {op : Op} {s s' : State} (h : Twins op s s') (as : List Answer) :
    Twins op (s.withTape as) (s'.withTape as) :=
  ⟨congrArg (State.withTape · as) h.same, h.mem, h.outside, h.length, h.length', h.place.withTape as,
    h.place'.withTape as⟩

/-- Twins stay twins over a tape. -/
theorem Twins.drive {op : Op} (hk : op.takesKey = true) (as : List Answer) {s s' : State} (h : Twins op s s') :
    Twins op (Machine.drive as s) (Machine.drive as s') := by
  induction as generalizing s s' with
  | nil => exact h.withTape []
  | cons a as ih =>
    have hrunning : s.running = s'.running := by simpa using congrArg State.running h.same
    cases hrun : s.running with
    | true =>
      rw [drive_cons hrun, drive_cons (hrunning ▸ hrun)]
      exact ih (h.tick hk hrun a)
    | false =>
      rw [drive_rest hrun, drive_rest (hrunning ▸ hrun)]
      exact h.withTape (a :: as)

/-- A buffer is its bytes. -/
theorem eq_of_byteAt {n : Nat} {b b' : Bytes n} (h : ∀ j, j < n → byteAt b j = byteAt b' j) : b = b' := by
  apply Vector.ext
  intro i hi
  simpa [byteAt, hi] using h i hi

/-- Twins that have ended are the same but for the history: the key is forgotten alike. -/
theorem Twins.ended {op : Op} {s s' : State} (h : Twins op s s') (hend : s.running = false) :
    { s with events := [] } = { s' with events := [] } := by
  obtain ⟨hseq, -, hfresh⟩ := unkeyed_parts h.same
  have hbus {u : State} (hu : u.running = false) : u.keyOnBus = false := by
    cases hq : u.seq with
    | run op k p => simp [State.running, hq] at hu
    | _ => simp [State.keyOnBus, hq]
  have hend' : s'.running = false := by rwa [State.running, ← hseq]
  have hmem : s.mem = s'.mem := by
    rw [← shownMem_of_not_keyOnBus (hbus hend), h.mem, shownMem_of_not_keyOnBus (hbus hend')]
  obtain ⟨k, q, hs⟩ | ⟨-, w, rfl⟩ := h.place
  · simp [State.running, hs] at hend
  obtain ⟨k, q, hs⟩ | ⟨-, w', rfl⟩ := h.place'
  · simp [State.running, hs] at hend'
  have hw : w.fresh = w'.fresh := by simpa using hfresh
  have hkey : w.dropKey.key = w'.dropKey.key := by rw [State.dropKey_key, State.dropKey_key, hw]
  have hbuf : w.dropKey.txBuf = w'.dropKey.txBuf := by
    refine eq_of_byteAt fun j _ => ?_
    by_cases hj : 2 ≤ j ∧ j < 8
    · rw [byteAt_dropKey, byteAt_dropKey, if_pos hj, if_pos hj, hw]
    · exact h.outside j (by omega)
  calc { w.dropKey with events := [] }
    _ = { w.dropKey.unkeyed with key := w.dropKey.key, txBuf := w.dropKey.txBuf, mem := w.dropKey.mem } := rfl
    _ = { w'.dropKey.unkeyed with key := w'.dropKey.key, txBuf := w'.dropKey.txBuf, mem := w'.dropKey.mem } := by
      rw [h.same, hkey, hbuf, hmem]
    _ = { w'.dropKey with events := [] } := rfl

/-! ## Twin instructions -/

/-- Two operand blocks that differ in the key agree outside its bytes. -/
theorem getD_authBlockBytes_outside (cmd blk : Byte) (key key' : Bytes 6) (uid : Bytes 4) {j : Nat}
    (hj : j < 2 ∨ 8 ≤ j) :
    (authBlockBytes cmd blk key uid).getD j 0 = (authBlockBytes cmd blk key' uid).getD j 0 := by
  obtain hj | hj := hj
  · obtain rfl | rfl : j = 0 ∨ j = 1 := by omega
    · rfl
    · rfl
  · obtain ⟨m, rfl⟩ := Nat.exists_eq_add_of_le hj
    rw [getD_authBlockBytes_uid, getD_authBlockBytes_uid]

/-- Two operand blocks that differ in the key, staged in the same state, make twins. -/
theorem twins_of_staged {op : Op} {k : Nat} {q : RunPoint} {s u u' : State} {cmd blk : Byte} {key key' : Bytes 6}
    {uid : Bytes 4} (hs : u.seq = .run op k (.run q)) (hsame : u.unkeyed = { u'.unkeyed with txLen := u.txLen })
    (hmem : u.mem = u'.mem) (hlen : u.txLen = 12) (hlen' : u'.txLen = 12)
    (hbuf : u.txBuf = putBytes s.txBuf 0 (authBlockBytes cmd blk key uid))
    (hbuf' : u'.txBuf = putBytes s.txBuf 0 (authBlockBytes cmd blk key' uid)) : Twins op u u' := by
  have hsame' : u.unkeyed = u'.unkeyed := by
    rw [hsame, hlen, ← hlen']
    rfl
  refine ⟨hsame', shownMem_congr hsame' hmem, fun j hj => ?_, hlen, hlen', .inl ⟨k, q, hs⟩,
    .inl ⟨k, q, (unkeyed_parts hsame').1 ▸ hs⟩⟩
  have h12 (key : Bytes 6) := length_authBlockBytes cmd blk key uid
  rw [hbuf, hbuf', byteAt_putBytes _ _ _ _ (by rw [h12]; decide), byteAt_putBytes _ _ _ _ (by rw [h12]; decide), h12, h12,
    Nat.sub_zero, getD_authBlockBytes_outside cmd blk key key' uid hj]

theorem startAuthenticate_twins (keyB : Bool) (blk : Byte) (key key' : Bytes 6) (uid : Bytes 4) (s : State) :
    Twins .authenticate (startAuthenticate keyB blk key uid s) (startAuthenticate keyB blk key' uid s) :=
  twins_of_staged rfl rfl rfl (startAuthenticate_txLen _ _ _ _ s) (startAuthenticate_txLen _ _ _ _ s)
    (startAuthenticate_txBuf _ _ _ _ s) (startAuthenticate_txBuf _ _ _ _ s)

/-- A lone operand block is staged by either selector. -/
theorem startFrame_twins {i i' : Instr} {cmd blk : Byte} {key key' : Bytes 6} {uid : Bytes 4} {s : State}
    (hi : encodeBytes s.cfg i = authBlockBytes cmd blk key uid)
    (hi' : encodeBytes s.cfg i' = authBlockBytes cmd blk key' uid) :
    Twins (.exchange .auth) (startFrame i .auth s) (startFrame i' .auth s) := by
  have hlen {j : Instr} {key : Bytes 6} (hj : encodeBytes s.cfg j = authBlockBytes cmd blk key uid) :
      (startFrame j .auth s).txLen = 12 := congrArg (BitVec.ofNat 7) (by rw [hj, length_authBlockBytes])
  exact twins_of_staged rfl rfl rfl (hlen hi) (hlen hi') (congrArg (putBytes s.txBuf 0) hi)
    (congrArg (putBytes s.txBuf 0) hi')

/-- Runs from twin starts leave the same state but for the history, once they have ended. -/
theorem Twins.runs {i i' : Instr} {op : Op} {s t t' : State} (hk : op.takesKey = true)
    (h : Twins op (startOf i s) (startOf i' s)) (hend : t.running = false) (hr : Runs i s t) (hr' : Runs i' s t') :
    { t with events := [] } = { t' with events := [] } := by
  obtain ⟨ha, u, hu, rfl⟩ := hr
  obtain ⟨-, u', hu', rfl⟩ := hr'
  cases exec_accepting ha hu
  cases exec_accepting ha hu'
  obtain ⟨-, htape, -⟩ := startOf_boundary i s
  obtain ⟨-, htape', -⟩ := startOf_boundary i' s
  have htwins : Twins op (startOf i s).resume (startOf i' s).resume := by
    rw [State.resume, State.resume, htape, htape']
    exact h.drive hk s.answers
  exact htwins.ended hend

/-- Settles O47: the status by the course of AUTHENTICATE, the key by twin runs. -/
theorem authenticateReturnsAStatusAndForgetsTheKey : Obligations.AuthenticateReturnsAStatusAndForgetsTheKey := by
  refine ⟨fun keyB blk key uid s t st data bits h hreply => authenticate_status h hreply,
    fun keyB blk key key' uid s t t' hend => ⟨?_, ?_, ?_⟩⟩
  · exact Twins.runs rfl (startAuthenticate_twins keyB blk key key' uid s) hend
  · exact Twins.runs (i := .authblkA blk key uid) (i' := .authblkA blk key' uid) rfl (startFrame_twins rfl rfl) hend
  · exact Twins.runs (i := .authblkB blk key uid) (i' := .authblkB blk key' uid) rfl (startFrame_twins rfl rfl) hend

end Sys2Proof.Machine
end

section
/-! PROOF. The eight uses of `SETBITS` and `CLEARBITS`: a read, its byte in `E.TMP`, and a write of that byte with the mask's
bits set or cleared (R143 to R145). -/

namespace Sys2Proof.Machine

/-- The places `pr` and `pw` of an operation are one use of a register helper: `pr` reads the register `addr`, `E.TMP` takes
the byte, and `pw` follows, which writes `bits` of that byte to the same register. -/
structure HelperUse (op : Op) (pr pw : Point) (addr : RegMap → Byte) (bits : Masks → Byte → Byte) : Prop where
  read : ∀ s, request s op pr = .read (addr s.cfg.reg)
  keep : ∀ s k v, advance s op k v pr = { s with tmp := v }.goto op k pw
  write : ∀ s, request s op pw = .write (addr s.cfg.reg) (bits s.cfg.bit s.tmp)

/-! ## The eight uses -/

/-- INIT turns the antenna drivers on (R167). -/
theorem antenna_helperUse (op : Op) : HelperUse op (.init .antennaRead) (.init .antennaWrite) RegMap.txControl
    fun b v => setBits v b.antennaOn :=
  ⟨fun _ => rfl, fun _ _ _ => rfl, fun _ => rfl⟩

/-- `calculateCRC` clears the CRC request bit (R260). -/
theorem crcClear_helperUse (op : Op) : HelperUse op (.crc .clearRead) (.crc .clearWrite) RegMap.divIrq
    fun b v => clearBits v b.crcIRq :=
  ⟨fun _ => rfl, fun _ _ _ => rfl, fun _ => rfl⟩

/-- `calculateCRC` flushes the FIFO (R261). -/
theorem crcFlush_helperUse (op : Op) : HelperUse op (.crc .flushRead) (.crc .flushWrite) RegMap.fifoLevel
    fun b v => setBits v b.flushBuffer :=
  ⟨fun _ => rfl, fun _ _ _ => rfl, fun _ => rfl⟩

/-- `RunCommand` clears the request bits (R222). -/
theorem irqClear_helperUse (op : Op) : HelperUse op (.run .irqRead) (.run .irqWrite) RegMap.comIrq
    fun b v => clearBits v b.set1 :=
  ⟨fun _ => rfl, fun _ _ _ => rfl, fun _ => rfl⟩

/-- `RunCommand` flushes the FIFO (R222). -/
theorem runFlush_helperUse (op : Op) : HelperUse op (.run .flushRead) (.run .flushWrite) RegMap.fifoLevel
    fun b v => setBits v b.flushBuffer :=
  ⟨fun _ => rfl, fun _ _ _ => rfl, fun _ => rfl⟩

/-- `RunCommand` sets start-send (R226). -/
theorem sendSet_helperUse (op : Op) : HelperUse op (.run .sendRead) (.run .sendWrite) RegMap.bitFraming
    fun b v => setBits v b.startSend :=
  ⟨fun _ => rfl, fun _ _ _ => rfl, fun _ => rfl⟩

/-- `RunCommand` clears start-send (R230). -/
theorem sendClear_helperUse (op : Op) : HelperUse op (.run .clearRead) (.run .clearWrite) RegMap.bitFraming
    fun b v => clearBits v b.startSend :=
  ⟨fun _ => rfl, fun _ _ _ => rfl, fun _ => rfl⟩

/-- DEAUTHENTICATE clears the crypto bit (R201). -/
theorem deauth_helperUse (op : Op) : HelperUse op .deauthRead .deauthWrite RegMap.status2
    fun b v => clearBits v b.crypto1On :=
  ⟨fun _ => rfl, fun _ _ _ => rfl, fun _ => rfl⟩

/-! ## What a use does -/

section
variable {s : State} {op : Op} {k : Nat} {pr pw : Point} {addr : RegMap → Byte} {bits : Masks → Byte → Byte}

/-- The read completes: the byte stands in `E.TMP` and the write is next. -/
theorem HelperUse.tick_done (h : HelperUse op pr pw addr bits) (hs : s.seq = .run op k pr) (v : Byte) :
    tick s (.done v) = { s.record (.read (addr s.cfg.reg)) v with tmp := v }.goto op (k + 1) pw := by
  rw [Machine.tick_done hs, h.read, h.keep]

/-- The whole of one use from its read: the write carries the byte read, and a failed read leaves an engine in FAULT with
nothing but that read recorded. -/
theorem HelperUse.writesBack (h : HelperUse op pr pw addr bits) (v : Byte) (hs : s.seq = .run op k pr) :
    request s op pr = .read (addr s.cfg.reg) ∧
    (tick s (.done v)).seq = .run op (k + 1) pw ∧ (tick s (.done v)).tmp = v ∧
    request (tick s (.done v)) op pw = .write (addr s.cfg.reg) (bits s.cfg.bit v) ∧
    (tick s .failed).seq = .fault ∧ (tick s .failed).events = .readFailed (addr s.cfg.reg) :: s.events := by
  have hdone := h.tick_done hs v
  have hfault : (tick s .failed).seq = .fault := by rw [tick_failed hs, State.releaseKey_seq, State.takeBusError_seq]
  have hevents := tick_events hs .failed
  rw [h.read] at hevents
  exact ⟨h.read s, by rw [hdone]; rfl, by rw [hdone]; rfl, by rw [hdone, h.write]; rfl, hfault, hevents⟩

end

/-- Settles O30: each of the eight places is a use of a helper. -/
theorem helpersWriteBackTheOtherBits : Obligations.HelpersWriteBackTheOtherBits := by
  intro s op k v
  simp only [List.forall_mem_cons]
  exact ⟨(antenna_helperUse op).writesBack v, (crcClear_helperUse op).writesBack v,
    (crcFlush_helperUse op).writesBack v, (irqClear_helperUse op).writesBack v,
    (runFlush_helperUse op).writesBack v, (sendSet_helperUse op).writesBack v,
    (sendClear_helperUse op).writesBack v, (deauth_helperUse op).writesBack v, List.forall_mem_nil _⟩

end Sys2Proof.Machine
end

section
/-! PROOF. INIT end to end: its seven configuration writes, and the antenna drivers turned on where they are not (R160 to
R168). -/

namespace Sys2Proof.Machine

section
variable {s : State} {k : Nat}

/-! ## From place to place of INIT -/

/-- A use of a register helper is played from its read to where its write leads, `f` saying what that is. -/
theorem HelperUse.plays {op : Op} {pr pw : Point} {addr : RegMap → Byte} {bits : Masks → Byte → Byte}
    (h : HelperUse op pr pw addr bits) (f : State → State) (hs : s.seq = .run op k pr) (v : Byte)
    (hnext : ∀ u w, advance u op (k + 2) w pw = f u) :
    ∃ u : State, Plays s [.read (addr s.cfg.reg) v, .write (addr s.cfg.reg) (bits s.cfg.bit v)] (f u) ∧ u.tmp = v ∧
      u.busFault = s.busFault := by
  have hread := plays_read hs (h.read s) v
  rw [h.keep] at hread
  have hwrite := plays_write (s := { s.record (.read (addr s.cfg.reg)) v with tmp := v }.goto op (k + 1) pw) rfl
    (h.write _) fun w => hnext (State.wrote _ _ _) w
  exact ⟨_, hread.trans hwrite, rfl, rfl⟩

/-- A configuration write of INIT goes on to the next place. -/
theorem plays_initWrite {p : InitPoint} (q : InitPoint) {a w : Byte} (hs : s.seq = .run .init k (.init p))
    (hr : initRequest s p = .write a w)
    (hadv : ∀ u v, initAdvance u .init (k + 1) v p = u.goto .init (k + 1) (.init q)) :
    Plays s [.write a w] ((s.wrote a w).goto .init (k + 1) (.init q)) :=
  plays_write hs hr fun v => hadv (s.record (.write a w) v) v

/-- The configuration writes in their order lead to the antenna test (R162 to R166). -/
theorem plays_initTrace (s : State) :
    ∃ t, Plays (startInit s) (initTrace s.cfg) t ∧ t.seq = .run .init 7 (.init .antennaTest) ∧ t.cfg = s.cfg ∧
      t.busFault = s.busFault :=
  have softReset := plays_initWrite .tMode (s := startInit s) rfl rfl fun _ _ => rfl
  have tMode := softReset.trans (plays_initWrite .tPrescaler rfl rfl fun _ _ => rfl)
  have tPrescaler := tMode.trans (plays_initWrite .tReloadL rfl rfl fun _ _ => rfl)
  have tReloadL := tPrescaler.trans (plays_initWrite .tReloadH rfl rfl fun _ _ => rfl)
  have tReloadH := tReloadL.trans (plays_initWrite .txASK rfl rfl fun _ _ => rfl)
  have txASK := tReloadH.trans (plays_initWrite .mode rfl rfl fun _ _ => rfl)
  have mode := txASK.trans (plays_initWrite .antennaTest rfl rfl fun _ _ => rfl)
  ⟨_, mode, rfl, rfl, rfl⟩

/-- The byte of the antenna test stays in `E.TMP` (R323) and says whether INIT ends there (R167). -/
theorem advance_antennaTest (s : State) (op : Op) (k : Nat) (v : Byte) :
    advance s op k v (.init .antennaTest) =
      if antennaIsOn s.cfg v then { s with tmp := v }.finishUnit
      else { s with tmp := v }.goto op k (.init .antennaRead) := rfl

/-- With both driver bits set the antenna test ends INIT (R167). -/
theorem plays_antennaTest_on (hs : s.seq = .run .init k (.init .antennaTest)) {test : Byte}
    (hon : antennaIsOn s.cfg test = true) :
    ∃ u : State, Plays s [.read s.cfg.reg.txControl test] u.finishUnit ∧ u.tmp = test ∧ u.busFault = s.busFault := by
  have hread := plays_read hs (a := s.cfg.reg.txControl) rfl test
  rw [advance_antennaTest, State.record_cfg, if_pos hon] at hread
  exact ⟨_, hread, rfl, rfl⟩

/-- Otherwise the drivers are turned on by one use of `SETBITS`, which reads the register again (R167). -/
theorem plays_antennaTest_off (hs : s.seq = .run .init k (.init .antennaTest)) {test : Byte}
    (hoff : antennaIsOn s.cfg test = false) (second : Byte) :
    ∃ u : State, Plays s ([.read s.cfg.reg.txControl test] ++
      setBitsTrace s.cfg.reg.txControl second s.cfg.bit.antennaOn) u.finishUnit ∧ u.tmp = second ∧
      u.busFault = s.busFault := by
  have hread := plays_read hs (a := s.cfg.reg.txControl) rfl test
  rw [advance_antennaTest, State.record_cfg, if_neg (by simp [hoff])] at hread
  obtain ⟨u, hset, htmp, hbus⟩ := (antenna_helperUse .init).plays State.finishUnit (k := k + 1)
    (s := { s.record (.read s.cfg.reg.txControl) test with tmp := test }.goto .init (k + 1) (.init .antennaRead))
    rfl second fun _ _ => rfl
  exact ⟨u, hread.trans hset, htmp, hbus⟩

end

/-! ## INIT end to end -/

/-- INIT is accepted in `s` and ends after the transactions `es`, leaving `rest` of the tape and `v` in `E.TMP`. -/
abbrev InitEnds (s : State) (es : List Event) (rest : List Answer) (v : Byte) : Prop :=
  ∃ u t : State, exec .init s = .next u ∧ u.resume = t ∧ t.seq = .idle ∧ t.reply = .completed ∧
    t.ghost = .ready false ∧ t.answers = rest ∧ t.trace = s.trace ++ es ∧ t.tmp = v ∧ t.busFault = false ∧
    t.txBuf = s.txBuf ∧ t.txLen = s.txLen ∧ t.cnt = s.cnt ∧ t.irqV = s.irqV ∧ t.errV = s.errV ∧ t.crc = s.crc

/-- A trace played from the start of INIT to its end is the whole of INIT; the other registers stay by the frame of INIT. -/
theorem Plays.initEnds {s u : State} {es : List Event} {as rest : List Answer} (ha : s.Accepting)
    (h : Plays (startInit s) es u.finishUnit) (hb : u.busFault = s.busFault) (hg : tapeGives as es = true)
    (htape : s.answers = as ++ rest) : InitEnds s es rest u.tmp := by
  have hexec : exec .init s = .next (startInit s) := launch_accepting ha _
  have hresume : (startInit s).resume = u.finishUnit.withTape rest := h.resume hg htape rfl
  have hbus : u.busFault = false := hb.trans ha.2
  obtain ⟨hframe, -⟩ := operationsLeaveTheOtherRegisters
  obtain ⟨hunit, -, hcrc⟩ := hframe .init s _ (.inr ⟨ha, _, hexec, hresume⟩)
  obtain ⟨htx, htl, hcnt, hirq, herr, -⟩ := hunit (by simp)
  exact ⟨_, _, hexec, hresume, rfl, rfl, rfl, rfl, h.trace, rfl, hbus, htx, htl, hcnt, hirq, herr,
    hcrc (by simp) (by simp) (by simp) hbus⟩

/-- Settles O31: the configuration writes are played to the antenna test, whose byte decides how INIT ends. -/
theorem initConfiguresTheChipInOrder : Obligations.InitConfiguresTheChipInOrder := by
  intro s test second as rest ha
  obtain ⟨t, hconf, hs, hc, hb⟩ := plays_initTrace s
  refine ⟨fun hon hg htape => ?_, fun hoff hg htape => ?_⟩
  · obtain ⟨u, htest, rfl, hbu⟩ := plays_antennaTest_on hs (hc ▸ hon)
    rw [hc] at htest
    exact (hconf.trans htest).initEnds ha (hbu.trans hb) hg htape
  · obtain ⟨u, htest, rfl, hbu⟩ := plays_antennaTest_off hs (hc ▸ hoff) second
    rw [hc] at htest
    have hplays := hconf.trans htest
    rw [← List.append_assoc] at hplays
    exact hplays.initEnds ha (hbu.trans hb) hg htape

end Sys2Proof.Machine
end

section
/-! SUPPORT. The verdict of each operation on its exchange (R23, R182, R187, R193, R198, R208, R211, R213). -/

namespace Sys2Proof.Machine

/-! ## Forgetting a key -/

section
variable (s : State) (op : Op)

@[simp] theorem State.releaseKey_reply : (s.releaseKey op).reply = s.reply := by
  unfold State.releaseKey; split <;> rfl
@[simp] theorem State.releaseKey_status : (s.releaseKey op).status = s.status := by
  unfold State.releaseKey; split <;> rfl
@[simp] theorem State.releaseKey_rxBuf : (s.releaseKey op).rxBuf = s.rxBuf := by
  unfold State.releaseKey; split <;> rfl
@[simp] theorem State.releaseKey_rxLen : (s.releaseKey op).rxLen = s.rxLen := by
  unfold State.releaseKey; split <;> rfl
@[simp] theorem State.releaseKey_rxBits : (s.releaseKey op).rxBits = s.rxBits := by
  unfold State.releaseKey; split <;> rfl
@[simp] theorem State.releaseKey_ghost : (s.releaseKey op).ghost = s.ghost := by
  unfold State.releaseKey; split <;> rfl

/-- A forgotten key leaves what `RunCommand` ended with. -/
theorem exchangeStatus_releaseKey (cmd : Command) :
    (s.releaseKey op).exchangeStatus cmd = s.exchangeStatus cmd := by
  unfold State.releaseKey; split <;> rfl

end

/-! ## The verdict of each operation -/

section
variable (s : State)

/-- SCAN: Ok on exactly 16 bits, else ProtocolError (R182). -/
theorem endScan_cases :
    ((s.status = .ok ∧ s.rxBits = 16) ∧ s.endScan = s.finishOk (firstBytes s.rxBuf 2) none .requested) ∨
    (¬ (s.status = .ok ∧ s.rxBits = 16) ∧ s.endScan = s.finishFailed .protocolError none s.ghost.failed) := by
  have hbits : (s.status = .ok ∧ atqaValid s.rxBits) ↔ (s.status = .ok ∧ s.rxBits = 16) := by
    simp [atqaValid, Config.atqaBits]
  rw [← hbits]
  unfold State.endScan
  split
  next h => exact .inl ⟨h, rfl⟩
  next h => exact .inr ⟨h, rfl⟩

/-- Five bytes, the last the exclusive-or of the others (R187, R189). -/
abbrev ValidIdentity (s : State) : Prop :=
  s.rxLen = 5 ∧ byteAt s.rxBuf 4 = byteAt s.rxBuf 0 ^^^ byteAt s.rxBuf 1 ^^^ byteAt s.rxBuf 2 ^^^ byteAt s.rxBuf 3

theorem identityValid_iff : identityValid s.rxLen s.rxBuf = true ↔ ValidIdentity s := by
  rw [ValidIdentity, eq_comm (a := byteAt s.rxBuf 4)]
  simp [identityValid, bcc]

/-- IDENTIFY: a status other than Ok is passed on, an identity that is not valid is ProtocolError (R187). -/
theorem endIdentify_cases :
    ((s.status = .ok ∧ ValidIdentity s) ∧ s.endIdentify = s.finishOk (firstBytes s.rxBuf 5) none .identified) ∨
    ((s.status = .ok ∧ ¬ ValidIdentity s) ∧ s.endIdentify = s.finishFailed .protocolError none s.ghost.failed) ∨
    (s.status ≠ .ok ∧ s.endIdentify = s.finishFailed s.status none s.ghost.failed) := by
  rw [← identityValid_iff]
  unfold State.endIdentify
  split
  next hst =>
    split
    next h => exact .inl ⟨⟨hst, h⟩, rfl⟩
    next h => exact .inr (.inl ⟨⟨hst, h⟩, rfl⟩)
  next hst => exact .inr (.inr ⟨hst, rfl⟩)

/-- SELECT: the status, and with Ok what was received (R193). -/
theorem endSelect_cases :
    (s.status = .ok ∧ s.endSelect = s.finishOk (firstBytes s.rxBuf s.rxLen.toNat) (some s.rxBits) .selected) ∨
    (s.status ≠ .ok ∧ s.endSelect = s.finishFailed s.status (some 0) s.ghost.failed) := by
  unfold State.endSelect
  split
  next h => exact .inl ⟨h, rfl⟩
  next h => exact .inr ⟨h, rfl⟩

/-- AUTHENTICATE: the status (R198). -/
theorem authVerdict_cases :
    (s.status = .ok ∧ s.authVerdict = s.finishOk [] none (.authenticated s.blk)) ∨
    (s.status ≠ .ok ∧ s.authVerdict = s.finishFailed s.status none s.ghost.failed) := by
  unfold State.authVerdict
  split
  next h => exact .inl ⟨h, rfl⟩
  next h => exact .inr ⟨h, rfl⟩

/-- READ: a status other than Ok is passed on, fewer than 16 bytes are ProtocolError (R208). -/
theorem endRead_cases :
    ((s.status = .ok ∧ 16 ≤ s.rxLen.toNat) ∧ s.endRead = s.finishOk (firstBytes s.rxBuf 16) none s.ghost) ∨
    ((s.status = .ok ∧ s.rxLen.toNat < 16) ∧ s.endRead = s.finishFailed .protocolError none s.ghost.failed) ∨
    (s.status ≠ .ok ∧ s.endRead = s.finishFailed s.status none s.ghost.failed) := by
  have hlen : blockReceived s.rxLen = true ↔ 16 ≤ s.rxLen.toNat := decide_eq_true_iff
  unfold State.endRead
  split
  next hst =>
    split
    next h => exact .inl ⟨⟨hst, hlen.1 h⟩, rfl⟩
    next h => exact .inr (.inl ⟨⟨hst, Nat.lt_of_not_le fun hn => h (hlen.2 hn)⟩, rfl⟩)
  next hst => exact .inr (.inr ⟨hst, rfl⟩)

/-- A phase of WRITE is Ok where its exchange is and the acknowledgment passes; an acknowledgment that does not is
ProtocolError, and a status other than Ok is passed on (R211). -/
theorem phaseStatus_cases :
    (s.status = .ok ∧ ackPasses s.cfg s.rxBits s.rxBuf = true ∧ s.phaseStatus = .ok) ∨
    (s.status = .ok ∧ ackPasses s.cfg s.rxBits s.rxBuf = false ∧ s.phaseStatus = .protocolError) ∨
    (s.status ≠ .ok ∧ s.phaseStatus = s.status) := by
  by_cases hst : s.status = .ok
  · cases ha : ackPasses s.cfg s.rxBits s.rxBuf with
    | true => exact .inl ⟨hst, rfl, by simp [State.phaseStatus, hst, ha]⟩
    | false => exact .inr (.inl ⟨hst, rfl, by simp [State.phaseStatus, hst, ha]⟩)
  · exact .inr (.inr ⟨hst, by simp [State.phaseStatus, hst]⟩)

theorem phaseStatus_ok_iff :
    s.phaseStatus = .ok ↔ s.status = .ok ∧ ackPasses s.cfg s.rxBits s.rxBuf = true := by
  obtain ⟨hst, ha, h⟩ | ⟨hst, ha, h⟩ | ⟨hst, h⟩ := phaseStatus_cases s
  · simp [hst, ha, h]
  · simp [hst, ha, h]
  · simp [hst, h]

/-- Phase 1 of WRITE: Ok stages the data and goes on with its CRC, another status ends the operation (R213). -/
theorem endWrite_one_cases (k : Nat) :
    (s.phaseStatus = .ok ∧
      s.endWrite k .one = (s.stage s.data.toList).goto (.write .two) k (.crc .clearRead)) ∨
    (s.phaseStatus ≠ .ok ∧ s.endWrite k .one = s.finishFailed s.phaseStatus none s.ghost.failed) := by
  simp only [State.endWrite]
  split
  next h => exact .inl ⟨h, rfl⟩
  next h => exact .inr ⟨h, rfl⟩

/-- Phase 2 of WRITE ends it with its status (R213). -/
theorem endWrite_two_cases (k : Nat) :
    (s.phaseStatus = .ok ∧ s.endWrite k .two = s.finishOk [] none s.ghost) ∨
    (s.phaseStatus ≠ .ok ∧ s.endWrite k .two = s.finishFailed s.phaseStatus none s.ghost.failed) := by
  simp only [State.endWrite]
  split
  next h => exact .inl ⟨h, rfl⟩
  next h => exact .inr ⟨h, rfl⟩

/-- A lone frame: the TransceiveResult (R23). -/
theorem exchangeVerdict_cases :
    (s.status = .ok ∧ s.exchangeVerdict = s.finishOk (firstBytes s.rxBuf s.rxLen.toNat) (some s.rxBits) s.ghost) ∨
    (s.status ≠ .ok ∧ s.exchangeVerdict = s.finishFailed s.status (some 0) s.ghost) := by
  unfold State.exchangeVerdict
  split
  next h => exact .inl ⟨h, rfl⟩
  next h => exact .inr ⟨h, rfl⟩

end

/-! ## What the verdicts have in common -/

/-- The operations that check what an Ok exchange has received (R182, R187, R208, R211). -/
def Op.checksResponse : Op → Bool
  | .scan => true
  | .identify => true
  | .read => true
  | .write _ => true
  | _ => false

/-- The ghost state after a failure: a lone frame leaves it (R335, log entry 18). -/
def Op.ghostOnFailure : Op → Ghost → Ghost
  | .exchange _, g => g
  | _, g => g.failed

/-- The operation `op` reports a status on the exchange that `w` shows the end of: Ok only where the exchange is Ok, with no
data otherwise, and ProtocolError on an Ok exchange only where `op` checks the response. `endRun_verdict` ties it to the
machine. -/
inductive Verdict (op : Op) (w : State) : State → Prop
  | accepted (data : List Byte) (bits : Option (BitVec 10)) (g : Ghost) (hst : w.status = .ok)
      (hlone : ∀ kind, op = .exchange kind →
        data = firstBytes w.rxBuf w.rxLen.toNat ∧ bits = some w.rxBits ∧ g = w.ghost) :
      Verdict op w ((w.finishOk data bits g).releaseKey op)
  | rejected (st : Status) (bits : Option (BitVec 10)) (hbits : bits = none ∨ bits = some 0)
      (hlone : ∀ kind, op = .exchange kind → bits = some 0) (hst : st ≠ .ok)
      (hfailed : w.status ≠ .ok → st = if op = .scan then .protocolError else w.status)
      (hchecked : w.status = .ok → st = .protocolError ∧ op.checksResponse = true) :
      Verdict op w ((w.finishFailed st bits (op.ghostOnFailure w.ghost)).releaseKey op)

section
variable {op : Op} {w : State}

/-- An operation of the host that takes no key: it has nothing to forget, and a failure of it leaves READY (R335). -/
abbrev Op.Plain (op : Op) : Prop := op.takesKey = false ∧ ∀ kind, op ≠ .exchange kind

theorem ghostOnFailure_host (h : ∀ kind, op ≠ .exchange kind) (g : Ghost) : op.ghostOnFailure g = g.failed := by
  cases op with
  | exchange kind => exact absurd rfl (h kind)
  | _ => rfl

theorem Op.Plain.accepted (h : op.Plain) (hst : w.status = .ok) (data : List Byte) (bits : Option (BitVec 10))
    (g : Ghost) : Verdict op w (w.finishOk data bits g) := by
  obtain ⟨hkey, hop⟩ := h
  have hv : Verdict op w ((w.finishOk data bits g).releaseKey op) :=
    .accepted data bits g hst fun kind hk => absurd hk (hop kind)
  rwa [State.releaseKey_keyless _ hkey] at hv

theorem Op.Plain.rejected (h : op.Plain) {st : Status} {bits : Option (BitVec 10)} (hbits : bits = none ∨ bits = some 0)
    (hst : st ≠ .ok) (hfailed : w.status ≠ .ok → st = if op = .scan then .protocolError else w.status)
    (hchecked : w.status = .ok → st = .protocolError ∧ op.checksResponse = true) :
    Verdict op w (w.finishFailed st bits w.ghost.failed) := by
  obtain ⟨hkey, hop⟩ := h
  have hv : Verdict op w ((w.finishFailed st bits (op.ghostOnFailure w.ghost)).releaseKey op) :=
    .rejected st bits hbits (fun kind hk => absurd hk (hop kind)) hst hfailed hchecked
  rwa [State.releaseKey_keyless _ hkey, ghostOnFailure_host hop] at hv

/-- The response of an Ok exchange fails the check of its operation. -/
theorem Op.Plain.checkFailed (h : op.Plain) (hc : op.checksResponse = true) (hst : w.status = .ok) :
    Verdict op w (w.finishFailed .protocolError none w.ghost.failed) :=
  h.rejected (.inl rfl) (by decide) (fun hne => absurd hst hne) fun _ => ⟨rfl, hc⟩

/-- A status other than Ok is passed on, by all but SCAN. -/
theorem Op.Plain.passedOn (h : op.Plain) (hscan : op ≠ .scan) (hst : w.status ≠ .ok) {bits : Option (BitVec 10)}
    (hbits : bits = none ∨ bits = some 0) : Verdict op w (w.finishFailed w.status bits w.ghost.failed) :=
  h.rejected hbits hst (fun _ => (if_neg hscan).symm) fun hok => absurd hok hst

/-- A phase of WRITE that fails passes the status on, or has failed its acknowledgment check (R211). -/
theorem verdict_phaseFailed {ph : Phase} (h : w.phaseStatus ≠ .ok) :
    Verdict (.write ph) w (w.finishFailed w.phaseStatus none w.ghost.failed) := by
  have hplain : (Op.write ph).Plain := ⟨rfl, nofun⟩
  obtain ⟨-, -, hok⟩ | ⟨hst, -, hphase⟩ | ⟨hst, hphase⟩ := phaseStatus_cases w
  · exact absurd hok h
  · rw [hphase]
    exact hplain.checkFailed rfl hst
  · rw [hphase]
    exact hplain.passedOn nofun hst (.inl rfl)

/-- An exchange that leaves the engine at rest ends with a verdict of its operation. -/
theorem endRun_verdict (he : op.exchanges = true) {k : Nat} (hidle : (w.endRun op k).seq = .idle) :
    Verdict op w (w.endRun op k) := by
  cases op with
  | scan =>
    have hplain : Op.scan.Plain := ⟨rfl, nofun⟩
    change Verdict .scan w w.endScan
    obtain ⟨⟨hst, -⟩, h⟩ | ⟨-, h⟩ := endScan_cases w <;> rw [h]
    · exact hplain.accepted hst _ _ _
    · exact hplain.rejected (.inl rfl) (by decide) (fun _ => rfl) fun _ => ⟨rfl, rfl⟩
  | identify =>
    have hplain : Op.identify.Plain := ⟨rfl, nofun⟩
    change Verdict .identify w w.endIdentify
    obtain ⟨⟨hst, -⟩, h⟩ | ⟨⟨hst, -⟩, h⟩ | ⟨hst, h⟩ := endIdentify_cases w <;> rw [h]
    · exact hplain.accepted hst _ _ _
    · exact hplain.checkFailed rfl hst
    · exact hplain.passedOn nofun hst (.inl rfl)
  | select =>
    have hplain : Op.select.Plain := ⟨rfl, nofun⟩
    change Verdict .select w w.endSelect
    obtain ⟨hst, h⟩ | ⟨hst, h⟩ := endSelect_cases w <;> rw [h]
    · exact hplain.accepted hst _ _ _
    · exact hplain.passedOn nofun hst (.inr rfl)
  | authenticate =>
    change Verdict .authenticate w (w.authVerdict.releaseKey .authenticate)
    obtain ⟨hst, h⟩ | ⟨hst, h⟩ := authVerdict_cases w <;> rw [h]
    · exact .accepted _ _ _ hst nofun
    · exact .rejected _ _ (.inl rfl) nofun hst (fun _ => rfl) fun hok => absurd hok hst
  | read =>
    have hplain : Op.read.Plain := ⟨rfl, nofun⟩
    change Verdict .read w w.endRead
    obtain ⟨⟨hst, -⟩, h⟩ | ⟨⟨hst, -⟩, h⟩ | ⟨hst, h⟩ := endRead_cases w <;> rw [h]
    · exact hplain.accepted hst _ _ _
    · exact hplain.checkFailed rfl hst
    · exact hplain.passedOn nofun hst (.inl rfl)
  | write ph =>
    cases ph with
    | one =>
      change Verdict (.write .one) w (w.endWrite k .one)
      change (w.endWrite k .one).seq = .idle at hidle
      obtain ⟨-, h⟩ | ⟨hst, h⟩ := endWrite_one_cases w k <;> rw [h] at hidle ⊢
      · cases hidle
      · exact verdict_phaseFailed hst
    | two =>
      have hplain : (Op.write .two).Plain := ⟨rfl, nofun⟩
      change Verdict (.write .two) w (w.endWrite k .two)
      obtain ⟨hst, h⟩ | ⟨hst, h⟩ := endWrite_two_cases w k <;> rw [h]
      · exact hplain.accepted ((phaseStatus_ok_iff w).1 hst).1 _ _ _
      · exact verdict_phaseFailed hst
  | exchange kind =>
    change Verdict (.exchange kind) w (w.exchangeVerdict.releaseKey (.exchange kind))
    obtain ⟨hst, h⟩ | ⟨hst, h⟩ := exchangeVerdict_cases w <;> rw [h]
    · exact .accepted _ _ _ hst fun _ _ => ⟨rfl, rfl, rfl⟩
    · exact .rejected _ _ (.inr rfl) (fun _ _ => rfl) hst (fun _ => rfl) fun hok => absurd hok hst
  | _ => cases he

/-- The verdict leaves what `RunCommand` ended with. -/
theorem Verdict.exchangeStatus_eq {t : State} (h : Verdict op w t) (cmd : Command) :
    t.exchangeStatus cmd = w.exchangeStatus cmd := by
  cases h <;> rw [exchangeStatus_releaseKey] <;> rfl

end

end Sys2Proof.Machine
end

section
/-! SUPPORT. The course of an operation that exchanges a frame: what each place relies on, and what `RunCommand` hands over at
its end (R220, R228 to R234, R268, R270). -/

namespace Sys2Proof.Machine

/-! ## What an operation leaves alone up to its verdict -/

/-- The state without what `RunCommand` changes before its end, and the model's records. -/
def State.besideRun (s : State) : State :=
  { s.steady with status := .ok, rxBuf := Vector.replicate 64 0, rxLen := 0, rxBits := 0 }

/-- The same without the staged frame and `E.CRC`: what no transaction of an operation changes before its verdict. -/
def State.besideOp (s : State) : State :=
  { s.besideRun with txBuf := Vector.replicate 64 0, txLen := 0, crc := Vector.replicate 2 0 }

section
variable {s t : State}

theorem besideRun_of_steady (h : t.steady = s.steady) : t.besideRun = s.besideRun :=
  (congrArg State.besideRun h :)

theorem besideOp_of_besideRun (h : t.besideRun = s.besideRun) : t.besideOp = s.besideOp :=
  (congrArg State.besideOp h :)

/-- `RunCommand` leaves the staged frame and `E.CRC` before its end. -/
theorem frame_of_besideRun (h : t.besideRun = s.besideRun) : t.txBuf = s.txBuf ∧ t.txLen = s.txLen ∧ t.crc = s.crc :=
  ⟨(congrArg State.txBuf h :), (congrArg State.txLen h :), (congrArg State.crc h :)⟩

theorem cfg_of_besideOp (h : t.besideOp = s.besideOp) : t.cfg = s.cfg := (congrArg State.cfg h :)

theorem reply_of_besideOp (h : t.besideOp = s.besideOp) : t.reply = s.reply := (congrArg State.reply h :)

theorem ghost_of_besideOp (h : t.besideOp = s.besideOp) : t.ghost = s.ghost := (congrArg State.ghost h :)

theorem busFault_of_besideOp (h : t.besideOp = s.besideOp) : t.busFault = s.busFault := (congrArg State.busFault h :)

theorem latches_of_besideOp (h : t.besideOp = s.besideOp) : SameLatches s t :=
  ⟨(congrArg State.blk h :), (congrArg State.keyB h :), (congrArg State.key h :), (congrArg State.sn h :),
    (congrArg State.data h :)⟩

end

/-! ## The payload and the closed frame -/

/-- The payload whose CRC an operation asks for, in terms of the latched operands (R191, R206, R210, R212). -/
def Op.payload (s : State) : Op → List Byte
  | .select => selectPayload s.cfg s.sn
  | .read => readPayload s.cfg s.blk
  | .write .one => writePayload s.cfg s.blk
  | .write .two => s.data.toList
  | _ => []

theorem Op.length_payload (op : Op) (s : State) : (op.payload s).length = op.crcPayload := by
  cases op with
  | select => simp [Op.payload, selectPayload, Op.crcPayload]
  | write ph =>
    cases ph with
    | one => rfl
    | two => simp [Op.payload, Op.crcPayload]
  | _ => rfl

theorem payload_of_besideOp {s t : State} (h : t.besideOp = s.besideOp) (op : Op) : op.payload t = op.payload s := by
  obtain ⟨hblk, -, -, hsn, hdata⟩ := latches_of_besideOp h
  simp only [Op.payload, cfg_of_besideOp h, hblk, hsn, hdata]

/-- The payload stands at the start of `E.TXBUF`. -/
structure PayloadReady (op : Op) (s : State) : Prop where
  length : s.txLen.toNat = op.crcPayload
  bytes : firstBytes s.txBuf op.crcPayload = op.payload s

/-- Where a CRC was asked for, the frame in `E.TXBUF` is the payload closed by `E.CRC` (R270). -/
def FrameClosed (op : Op) (s : State) : Prop :=
  op.crcPayload ≠ 0 →
    s.txLen.toNat = op.frameLength ∧ firstBytes s.txBuf op.frameLength = op.payload s ++ s.crc.toList

theorem Op.crcPayload_le (op : Op) : op.crcPayload ≤ 16 := by
  cases op with
  | write ph => cases ph <;> decide
  | exchange kind => exact Nat.zero_le _
  | _ => decide

/-- Staging the payload makes it ready. -/
theorem payloadReady_stage {op : Op} {s : State} {bytes : List Byte} (h : op.payload s = bytes) :
    PayloadReady op (s.stage bytes) := by
  have hlen : bytes.length = op.crcPayload := h ▸ op.length_payload s
  have hle := op.crcPayload_le
  refine ⟨stage_txLen_toNat hlen (by omega), ?_⟩
  rw [State.stage_txBuf, ← hlen, firstBytes_putBytes _ _ (by omega)]
  exact h.symm

/-- Appending the CRC closes the frame (R270). -/
theorem frameClosed_appendCrc {op : Op} {s : State} (h : PayloadReady op s) : FrameClosed op s.appendCrc := by
  intro hc
  have hle := op.crcPayload_le
  obtain ⟨-, hf⟩ := Op.frameLength_of_crcPayload hc
  have happend := firstBytes_append s.txBuf op.crcPayload s.crc.toList (by simp; omega)
  refine ⟨appendCrc_txLen_toNat ⟨hc, h.length⟩, ?_⟩
  rw [State.appendCrc_txBuf, h.length, hf]
  rwa [Vector.length_toList, h.bytes] at happend

theorem FrameClosed.of_besideRun {op : Op} {s t : State} (h : FrameClosed op s) (hb : t.besideRun = s.besideRun) :
    FrameClosed op t := by
  obtain ⟨hbuf, hlen, hcrc⟩ := frame_of_besideRun hb
  rw [FrameClosed, hbuf, hlen, hcrc, payload_of_besideOp (besideOp_of_besideRun hb)]
  exact h

/-- An operation that starts with a framing write asks for no CRC. -/
theorem Op.no_crc_of_frames {op : Op} (h : op.frames = true) : op.crcPayload = 0 := by
  cases op with
  | scan => rfl
  | identify => rfl
  | exchange kind => rfl
  | _ => cases h

/-! ## What `RunCommand` hands over -/

/-- A response of `len` bytes has its bit count in `E.RXBITS` (R233). -/
def ResponseCounted (s : State) (len : Nat) : Prop :=
  1 ≤ len ∧ len ≤ 64 ∧ ∃ control, s.rxBits = BitVec.ofNat 10 (bitCount len (lastBits s.cfg control))

/-- What `RunCommand` ends with: the status its registers show, no data with any but Ok, and with Ok of Transceive the counted
response (R229, R231 to R234). -/
structure ExchangeResult (op : Op) (s : State) : Prop where
  status : s.status = s.exchangeStatus op.runs
  noData : s.status ≠ .ok → s.rxLen = 0 ∧ s.rxBits = 0
  received : s.status = .ok → op.runs = .transceive →
    ∃ len, s.rxLen = BitVec.ofNat 7 len ∧ ResponseCounted s len

/-- What a place of `RunCommand` relies on: step 3 on a counter that has not reached 0, step 4 on an exchange that is Ok. -/
def RunCourse (op : Op) (s : State) : RunPoint → Prop
  | .clearRead => s.cnt ≠ 0
  | .clearWrite => s.cnt ≠ 0
  | .error => s.cnt ≠ 0
  | .level => s.status = .ok ∧ s.exchangeStatus op.runs = .ok
  | .control _ => s.status = .ok ∧ s.exchangeStatus op.runs = .ok
  | .drain len _ => (s.status = .ok ∧ s.exchangeStatus op.runs = .ok) ∧ ResponseCounted s len
  | _ => True

/-- A completed transaction of `RunCommand` goes on to a place that has what it relies on, or hands over the result. -/
def RunLeads (op : Op) (k : Nat) (s t : State) : Prop :=
  ∃ w : State, w.besideRun = s.besideRun ∧
    ((∃ q, t = w.goto op k (.run q) ∧ RunCourse op w q) ∨ (t = w.endRun op k ∧ ExchangeResult op w))

section
variable {op : Op} {k : Nat} {s : State}

theorem runLeads_goto (w : State) (h : w.besideRun = s.besideRun) {q : RunPoint} (hq : RunCourse op w q) :
    RunLeads op k s (w.goto op k (.run q)) := ⟨w, h, .inl ⟨q, rfl, hq⟩⟩

/-- `RunCommand` ends without data (R229, R231, R232, R241). -/
theorem runLeads_noData (w : State) (h : w.besideRun = s.besideRun) {st : Status}
    (hst : w.exchangeStatus op.runs = st) (hok : st = .ok → op.runs ≠ .transceive) :
    RunLeads op k s ((w.noData st).endRun op k) :=
  ⟨w.noData st, h, .inr ⟨rfl, hst.symm, fun _ => ⟨rfl, rfl⟩, fun he ht => absurd ht (hok he)⟩⟩

theorem runPush_course (i : Nat) : RunLeads op k s (runPush s op k i) := by
  unfold runPush
  split <;> exact runLeads_goto s rfl trivial

theorem afterPoll_course (w : State) (h : w.besideRun = s.besideRun) : RunLeads op k s (afterPoll w op k) := by
  unfold afterPoll
  split
  next hcnt => exact runLeads_noData w h (if_pos hcnt) (by simp)
  next hcnt =>
    split
    · exact runLeads_goto w h hcnt
    · exact runLeads_goto w h trivial

theorem afterError_course (w : State) (h : w.besideRun = s.besideRun) (hcnt : w.cnt ≠ 0) :
    RunLeads op k s (afterError w op k) := by
  unfold afterError
  split
  next herr => exact runLeads_noData w h (by rw [State.exchangeStatus, if_neg hcnt, if_pos herr]) (by simp)
  next herr =>
  split
  next htag => exact runLeads_noData w h (by rw [State.exchangeStatus, if_neg hcnt, if_neg herr, if_pos htag]) (by simp)
  next htag =>
  have hok : w.exchangeStatus op.runs = .ok := by
    rw [State.exchangeStatus, if_neg hcnt, if_neg herr, if_neg htag]
  split
  · exact runLeads_goto { w with status := .ok } h ⟨rfl, hok⟩
  next hop => exact runLeads_noData w h hok fun _ => hop

/-- The level is clamped and the bits are counted (R233). -/
theorem afterControl_course (lvl control : Byte) (hok : s.status = .ok ∧ s.exchangeStatus op.runs = .ok) :
    RunLeads op k s (afterControl s op k lvl control) := by
  obtain ⟨h1, h64⟩ := clampLevel_bounds lvl
  exact runLeads_goto
    { s with rxBits := BitVec.ofNat 10 (bitCount (clampLevel lvl) (lastBits s.cfg control)) } rfl
    ⟨hok, h1, h64, control, rfl⟩

theorem afterDrain_course (w : State) (h : w.besideRun = s.besideRun) {len i : Nat}
    (hw : RunCourse op w (.drain len i)) : RunLeads op k s (afterDrain w op k len i) := by
  unfold afterDrain
  split
  · exact runLeads_goto w h hw
  · obtain ⟨⟨hst, hex⟩, hcount⟩ := hw
    exact ⟨{ w with rxLen := BitVec.ofNat 7 len }, h, .inr ⟨rfl, hst.trans hex.symm, fun hne => absurd hst hne,
      fun _ _ => ⟨len, rfl, hcount⟩⟩⟩

/-- Where a completed transaction of `RunCommand` leads. -/
theorem runAdvance_course (v : Byte) {q : RunPoint} (hq : RunCourse op s q) :
    RunLeads op k s (runAdvance s op k v q) := by
  cases q with
  | irqRead => exact runLeads_goto { s with tmp := v } rfl trivial
  | flushRead => exact runLeads_goto { s with tmp := v } rfl trivial
  | idle => exact runPush_course 0
  | push i => exact runPush_course (i + 1)
  | start =>
    simp only [runAdvance]
    split
    · exact runLeads_goto s rfl trivial
    · exact runLeads_goto { s with cnt := s.cfg.transceiveBudget } rfl trivial
  | sendRead => exact runLeads_goto { s with tmp := v } rfl trivial
  | sendWrite => exact runLeads_goto { s with cnt := s.cfg.transceiveBudget } rfl trivial
  | poll => exact afterPoll_course { s with irqV := v, cnt := s.cnt - 1 } rfl
  | clearRead => exact runLeads_goto { s with tmp := v } rfl hq
  | clearWrite => exact runLeads_goto s rfl hq
  | error => exact afterError_course { s with errV := v } rfl hq
  | level => exact runLeads_goto s rfl hq
  | control lvl => exact afterControl_course lvl v hq
  | drain len i => exact afterDrain_course { s with rxBuf := putBytes s.rxBuf i [v] } rfl hq
  | _ => exact runLeads_goto s rfl trivial

end

/-! ## The course of an operation -/

/-- What a place of an operation relies on: the payload inside `calculateCRC`, the closed frame inside `RunCommand`. -/
def PlaceCourse (op : Op) (s : State) : Point → Prop
  | .crc _ => PayloadReady op s
  | .run q => FrameClosed op s ∧ RunCourse op s q
  | _ => True

/-- Wherever the engine stands, it has what that place relies on. -/
def AtCourse (s : State) : Prop := ∀ op k p, s.seq = .run op k p → PlaceCourse op s p

/-- The engine is at rest, having reported no status. -/
def NoStatus (s : State) : Prop := s.running = false ∧ ∀ st data bits, s.reply ≠ .result st data bits

/-- The exchange of the operation `op` has ended with the result that `w` shows, and the engine is at rest. -/
structure EndsFrom (op : Op) (w t : State) : Prop where
  result : ExchangeResult op w
  closed : FrameClosed op w
  exchanges : op.exchanges = true
  ends : ∃ k, t = w.endRun op k
  idle : t.seq = .idle

/-- Where a completed transaction of an operation leads. -/
def OpLeads (op : Op) (s t : State) : Prop :=
  (t.besideOp = s.besideOp ∧ AtCourse t) ∨ (∃ w, w.besideOp = s.besideOp ∧ EndsFrom op w t) ∨ NoStatus t

section
variable {op : Op} {k : Nat} {s : State}

theorem atCourse_goto {w : State} {p : Point} (h : PlaceCourse op w p) : AtCourse (w.goto op k p) := by
  intro op' k' p' hs
  cases hs
  cases p with
  | crc q => exact ⟨h.length, h.bytes⟩
  | run q => exact h
  | _ => trivial

theorem opLeads_goto (w : State) (h : w.besideOp = s.besideOp) {p : Point} (hp : PlaceCourse op w p) :
    OpLeads op s (w.goto op k p) := .inl ⟨h, atCourse_goto hp⟩

/-- INIT stages no frame and reports no status (R160, R168). -/
theorem opLeads_initAdvance (v : Byte) (q : InitPoint) : OpLeads op s (initAdvance s op k v q) := by
  cases q with
  | antennaTest =>
    simp only [initAdvance]
    split
    · exact .inr (.inr ⟨rfl, by simp⟩)
    · exact opLeads_goto { s with tmp := v } rfl trivial
  | antennaRead => exact opLeads_goto { s with tmp := v } rfl trivial
  | antennaWrite => exact .inr (.inr ⟨rfl, by simp [initAdvance]⟩)
  | _ => exact opLeads_goto s rfl trivial

theorem opLeads_enterRun (w : State) (h : w.besideOp = s.besideOp) (hc : FrameClosed op w) :
    OpLeads op s (enterRun w op k) := by
  unfold enterRun
  split
  · exact .inr (.inr ⟨rfl, by simp⟩)
  · exact opLeads_goto w h ⟨hc, trivial⟩

/-- Inside `calculateCRC` the payload stays, and the two bytes read close it (R268, R270). -/
theorem opLeads_crcAdvance (h : PayloadReady op s) (v : Byte) (q : CrcPoint) : OpLeads op s (crcAdvance s op k v q) := by
  have push (i : Nat) : OpLeads op s (crcPush s op k i) := by
    unfold crcPush
    split <;> exact opLeads_goto s rfl h
  cases q with
  | clearRead => exact opLeads_goto { s with tmp := v } rfl ⟨h.length, h.bytes⟩
  | flushRead => exact opLeads_goto { s with tmp := v } rfl ⟨h.length, h.bytes⟩
  | clearWrite => exact opLeads_goto s rfl h
  | flushWrite => exact push 0
  | push i => exact push (i + 1)
  | start => exact opLeads_goto { s with cnt := s.cfg.crcBudget } rfl ⟨h.length, h.bytes⟩
  | poll =>
    simp only [crcAdvance]
    split <;> exact opLeads_goto { s with irqV := v, cnt := s.cnt - 1 } rfl ⟨h.length, h.bytes⟩
  | resultL => exact opLeads_goto { s with crc := putBytes s.crc 0 [v] } rfl ⟨h.length, h.bytes⟩
  | resultM =>
    exact opLeads_enterRun (State.appendCrc { s with crc := putBytes s.crc 1 [v] }) rfl
      (frameClosed_appendCrc ⟨h.length, h.bytes⟩)

/-- `RunCommand` goes on with its frame; its end is the end of the operation, or the start of the second phase of WRITE with
the data staged (R213). -/
theorem opLeads_runAdvance (he : op.exchanges = true) {q : RunPoint} (hc : FrameClosed op s) (hq : RunCourse op s q)
    (v : Byte) : OpLeads op s (runAdvance s op k v q) := by
  obtain ⟨w, hw, ⟨q', h, hq'⟩ | ⟨h, hres⟩⟩ := runAdvance_course (k := k) v hq <;> rw [h]
  · exact opLeads_goto w (besideOp_of_besideRun hw) ⟨hc.of_besideRun hw, hq'⟩
  · obtain hidle | ⟨rfl, hrun⟩ := endRun_seq w op k
    · exact .inr (.inl ⟨w, besideOp_of_besideRun hw, hres, hc.of_besideRun hw, he, ⟨k, rfl⟩, hidle⟩)
    · obtain ⟨-, hend⟩ | ⟨-, hend⟩ := endWrite_one_cases w k
      · change OpLeads _ s (w.endWrite k .one)
        rw [hend]
        exact .inl ⟨(besideOp_of_besideRun hw :), atCourse_goto (p := .crc .clearRead) (payloadReady_stage rfl)⟩
      · change (w.endWrite k .one).seq = _ at hrun
        rw [hend] at hrun
        cases hrun

/-- Where a completed transaction leads, from a place that has what it relies on. -/
theorem advance_opLeads {i : Instr} {p : Point} (hp : PlaceOf s.cfg i op p) (hs : PlaceCourse op s p) (v : Byte) :
    OpLeads op s (advance s op k v p) := by
  cases p with
  | init q => exact opLeads_initAdvance v q
  | framing =>
    exact opLeads_enterRun (s.stage (op.framedFrame s.cfg)) rfl fun hc => absurd (Op.no_crc_of_frames hp) hc
  | crc q => exact opLeads_crcAdvance hs v q
  | run q => exact opLeads_runAdvance hp hs.1 hs.2 v
  | deauthRead => exact opLeads_goto { s with tmp := v } rfl trivial
  | _ => exact .inr (.inr ⟨rfl, by simp [advance]⟩)

end

/-! ## The course of an instruction -/

/-- The instruction `i`, accepted in `s`, is on its way in `t`, or has ended with a status or without one. -/
def Course (i : Instr) (s t : State) : Prop :=
  (t.besideOp = (startOf i s).besideOp ∧ AtCourse t) ∨
  (∃ op w, i.op.goesOnAs op ∧ w.besideOp = (startOf i s).besideOp ∧ EndsFrom op w t) ∨ NoStatus t

theorem atCourse_of_idle {s : State} (h : s.seq = .idle) : AtCourse s := by
  intro op k p hs
  rw [h] at hs
  cases hs

theorem atCourse_enterOp {s : State} {op : Op} {p : Point} (h : PlaceCourse op s p) : AtCourse (s.enterOp op p) := by
  intro op' k' p' hs
  cases hs
  cases p with
  | crc q => exact ⟨h.length, h.bytes⟩
  | run q => exact h
  | _ => trivial

/-- Every instruction starts with what its first place relies on. -/
theorem startOf_atCourse (i : Instr) {s : State} (hs : s.seq = .idle) : AtCourse (startOf i s) := by
  have staged {u : State} {op : Op} (hop : op.crcPayload = 0) : AtCourse (u.enterOp op (.run .enable)) :=
    atCourse_enterOp ⟨fun h => absurd hop h, trivial⟩
  cases i with
  | select sn => exact atCourse_enterOp (p := .crc .clearRead) (payloadReady_stage rfl)
  | read blk => exact atCourse_enterOp (p := .crc .clearRead) (payloadReady_stage rfl)
  | write blk data => exact atCourse_enterOp (p := .crc .clearRead) (payloadReady_stage rfl)
  | authenticate keyB blk key uid => exact staged rfl
  | selectFrame sn crc => exact staged rfl
  | authblkA blk key uid => exact staged rfl
  | authblkB blk key uid => exact staged rfl
  | mfRead blk crc => exact staged rfl
  | mfWrite blk crc => exact staged rfl
  | mfWriteData data crc => exact staged rfl
  | rdreg a d =>
    change AtCourse (startRdreg a s)
    obtain ⟨-, h⟩ | ⟨-, h⟩ := startRdreg_cases a s <;> rw [h]
    · exact atCourse_enterOp (p := .busRead a) trivial
    · exact atCourse_of_idle hs
  | wrreg a v =>
    change AtCourse (startWrreg a v s)
    obtain ⟨-, h⟩ | ⟨-, h⟩ := startWrreg_cases a v s <;> rw [h]
    · exact atCourse_enterOp (p := .busWrite a v) trivial
    · exact atCourse_of_idle hs
  | _ =>
    refine atCourse_enterOp ?_
    trivial

/-- An instruction that asks for a CRC starts with its payload staged (R191, R206, R210). -/
theorem startOf_payloadReady (i : Instr) {s : State} (hs : s.seq = .idle)
    (h : (startOf i s).seq = .run i.op 0 (.crc .clearRead)) : PayloadReady i.op (startOf i s) :=
  startOf_atCourse i hs i.op 0 (.crc .clearRead) h

/-- A transaction keeps an instruction on its course. -/
theorem Course.tick {i : Instr} {s u : State} (h : Course i s u) (hon : OnCourse i u) (hrun : u.running = true)
    (a : Answer) : Course i s (Machine.tick u a) := by
  obtain ⟨op, k, p, hs⟩ := (running_iff u).1 hrun
  obtain ⟨hbeside, hcourse⟩ | ⟨op', w, -, -, hends⟩ | ⟨hrest, -⟩ := h
  · obtain ⟨hop, hp⟩ := hon op k p hs
    cases a with
    | failed => exact .inr (.inr ⟨by rw [tick_failed hs]; simp [State.running], by rw [tick_failed hs]; simp⟩)
    | done v =>
      have hplace : PlaceCourse op (u.record (request u op p) v) p := by
        have hu := hcourse op k p hs
        cases p with
        | crc q => exact ⟨hu.length, hu.bytes⟩
        | run q => exact hu
        | _ => trivial
      rw [tick_done hs]
      obtain ⟨hb, hc⟩ | ⟨w, hw, hends⟩ | hno := advance_opLeads (k := k + 1) (s := u.record (request u op p) v) hp hplace v
      · exact .inl ⟨hb.trans hbeside, hc⟩
      · exact .inr (.inl ⟨op, w, hop, hw.trans hbeside, hends⟩)
      · exact .inr (.inr hno)
  · simp [State.running, hends.idle] at hrun
  · simp [hrest] at hrun

/-- Nor does the tape take it off. -/
theorem Course.withTape {i : Instr} {s u : State} (h : Course i s u) (as : List Answer) :
    Course i s (u.withTape as) := by
  obtain ⟨hbeside, hcourse⟩ | ⟨op, w, hop, hw, hres, hclosed, he, ⟨k, hk⟩, hidle⟩ | hno := h
  · refine .inl ⟨hbeside, fun op k p hs => ?_⟩
    have hp := hcourse op k p hs
    cases p with
    | crc q => exact ⟨hp.length, hp.bytes⟩
    | run q => exact hp
    | _ => trivial
  · have hw' : (w.withTape as).besideOp = (startOf i s).besideOp := hw
    refine .inr (.inl ⟨op, w.withTape as, hop, hw', ⟨hres.status, hres.noData, hres.received⟩, hclosed, he, ⟨k, ?_⟩, hidle⟩)
    rw [endRun_withTape, hk]
  · exact .inr (.inr hno)

/-- Acceptance reports no status. -/
theorem startOf_reply (i : Instr) (s : State) (st : Status) (data : List Byte) (bits : Option (BitVec 10)) :
    (startOf i s).reply ≠ .result st data bits := by
  cases i with
  | rdreg a d =>
    change (startRdreg a s).reply ≠ _
    obtain ⟨-, h⟩ | ⟨-, h⟩ := startRdreg_cases a s <;> rw [h] <;> simp
  | wrreg a v =>
    change (startWrreg a v s).reply ≠ _
    obtain ⟨-, h⟩ | ⟨-, h⟩ := startWrreg_cases a v s <;> rw [h] <;> simp
  | _ => exact nofun

/-- A run that has reported a status has ended an exchange of its instruction. -/
theorem runs_result {i : Instr} {s t : State} {st : Status} {data : List Byte} {bits : Option (BitVec 10)}
    (h : Runs i s t) (hreply : t.reply = .result st data bits) :
    ∃ op w, i.op.goesOnAs op ∧ w.besideOp = (startOf i s).besideOp ∧ EndsFrom op w t := by
  have hcourse : OnCourse i t ∧ Course i s t :=
    runs_induction (P := fun u => OnCourse i u ∧ Course i s u) h
      ⟨startOf_onCourse i h.1.1, .inl ⟨rfl, startOf_atCourse i h.1.1⟩⟩
      (fun u a hrun hu => ⟨hu.1.tick a, hu.2.tick hu.1 hrun a⟩) fun u as hu => ⟨hu.1, hu.2.withTape as⟩
  obtain ⟨-, ⟨hbeside, -⟩ | hends | ⟨-, hno⟩⟩ := hcourse
  · exact absurd ((reply_of_besideOp hbeside).symm.trans hreply) (startOf_reply i s st data bits)
  · exact hends
  · exact absurd hreply (hno st data bits)

end Sys2Proof.Machine
end

section
/-! PROOF. What each operation may report: its status, its data, and the ghost state it leaves (R179, R182, R187, R189, R193,
R208, R211, R213, R284, R335). -/

namespace Sys2Proof.Machine

/-! ## Every operation: its status and its data -/

section
variable {i : Instr} {op : Op} {s w t : State}

/-- What an instruction's operation runs is what the instruction runs. -/
theorem Op.goesOnAs.runs {first : Op} (h : first.goesOnAs op) : op.runs = first.runs := by
  obtain rfl | ⟨rfl, rfl⟩ := h <;> rfl

theorem EndsFrom.verdict (h : EndsFrom op w t) : Verdict op w t := by
  obtain ⟨k, rfl⟩ := h.ends
  exact endRun_verdict h.exchanges h.idle

/-- The registers still show the status of the exchange. -/
theorem EndsFrom.status_eq (h : EndsFrom op w t) : w.status = t.exchangeStatus op.runs :=
  h.result.status.trans (h.verdict.exchangeStatus_eq op.runs).symm

/-- The operation and its instruction are the host's, or a lone frame's, together. -/
theorem Op.goesOnAs.lone_iff (h : i.op.goesOnAs op) (he : op.exchanges = true) :
    (i.port = .host ∧ ∀ kind, op ≠ .exchange kind) ∨ (i.port = .frame ∧ ∃ kind, op = .exchange kind) := by
  obtain rfl | ⟨hi, rfl⟩ := h
  · cases i with
    | init => cases he
    | deauthenticate => cases he
    | rdreg a d => cases he
    | wrreg a v => cases he
    | cmdIdle => cases he
    | cmdCalcCrc => cases he
    | cmdTransceive => cases he
    | cmdMfAuthent => cases he
    | cmdSoftReset => cases he
    | _ => simp [Instr.port, Instr.op]
  · cases i with
    | write blk data => exact .inl ⟨rfl, by simp⟩
    | _ => cases hi

/-- After a failure in AUTHENTICATED a DEAUTHENTICATE is owed before the next SCAN (R335, log entry 18). -/
theorem allows_after_failure {g : Ghost} {b : Byte} (h : g = .authenticated b) :
    g.failed.allows .scan = false ∧ g.failed.allows .deauthenticate = true := by
  subst h
  exact ⟨rfl, rfl⟩

theorem startOf_ghost (i : Instr) (s : State) : (startOf i s).ghost = s.ghost := by
  cases i with
  | rdreg a d =>
    change (startRdreg a s).ghost = s.ghost
    obtain ⟨-, h⟩ | ⟨-, h⟩ := startRdreg_cases a s <;> rw [h] <;> rfl
  | wrreg a v =>
    change (startWrreg a v s).ghost = s.ghost
    obtain ⟨-, h⟩ | ⟨-, h⟩ := startWrreg_cases a v s <;> rw [h] <;> rfl
  | _ => rfl

/-- SCAN is the instruction whose operation is the scan. -/
theorem Op.goesOnAs.scan_iff (h : i.op.goesOnAs op) : op = .scan ↔ i = .scan := by
  obtain rfl | ⟨hi, rfl⟩ := h
  · cases i with
    | _ => simp [Instr.op]
  · refine ⟨fun h => (nomatch h), ?_⟩
    rintro rfl
    cases hi

/-- SELECT and AUTHENTICATE do not check what they receive (R193, R198). -/
theorem Op.goesOnAs.unchecked (h : i.op.goesOnAs op) (hi : i.op = .select ∨ i.op = .authenticate) :
    op.checksResponse = false := by
  obtain rfl | ⟨hw, -⟩ := h
  · obtain hi | hi := hi <;> rw [hi] <;> rfl
  · simp [hw] at hi

/-- What a verdict tells the host (R179, R284). -/
structure Reported (op : Op) (w : State) (st : Status) (data : List Byte) (bits : Option (BitVec 10)) (t : State) :
    Prop where
  status : t.status = st
  noData : st ≠ .ok → data = [] ∧ t.rxLen = 0 ∧ t.rxBits = 0 ∧ (bits = none ∨ bits = some 0)
  ghost : st ≠ .ok → t.ghost = op.ghostOnFailure w.ghost
  failed : w.status ≠ .ok → st = if op = .scan then .protocolError else w.status
  tag : w.status = .ok → st ≠ .noTagError
  unchecked : w.status = .ok → op.checksResponse = false → st = .ok

theorem Verdict.reported {st : Status} {data : List Byte} {bits : Option (BitVec 10)} (h : Verdict op w t)
    (hreply : t.reply = .result st data bits) : Reported op w st data bits t := by
  cases h with
  | accepted data' bits' g hst hlone =>
    simp only [State.releaseKey_reply, State.finishOk_reply, Reply.result.injEq] at hreply
    obtain ⟨rfl, rfl, rfl⟩ := hreply
    exact ⟨by simp, by simp, by simp, fun hne => absurd hst hne, by simp, fun _ _ => rfl⟩
  | rejected st' bits' hbits hlone hst hfailed hchecked =>
    simp only [State.releaseKey_reply, State.finishFailed_reply, Reply.result.injEq] at hreply
    obtain ⟨rfl, rfl, rfl⟩ := hreply
    refine ⟨by simp, fun _ => ⟨rfl, by simp, by simp, hbits⟩, by simp, hfailed, fun hok => ?_, fun hok hun => ?_⟩
    · rw [(hchecked hok).1]
      decide
    · simp [(hchecked hok).2] at hun

/-- A lone frame reports the TransceiveResult, and leaves the ghost state (R23, log entry 18). -/
theorem Verdict.reported_lone {kind : FrameKind} {st : Status} {data : List Byte} {bits : Option (BitVec 10)}
    (h : Verdict (.exchange kind) w t) (hreply : t.reply = .result st data bits) :
    st = w.status ∧ t.ghost = w.ghost ∧
    (st = .ok → data = firstBytes t.rxBuf t.rxLen.toNat ∧ bits = some t.rxBits) ∧ (st ≠ .ok → bits = some 0) := by
  cases h with
  | accepted data' bits' g hst hlone =>
    simp only [State.releaseKey_reply, State.finishOk_reply, Reply.result.injEq] at hreply
    obtain ⟨rfl, rfl, rfl⟩ := hreply
    obtain ⟨rfl, rfl, rfl⟩ := hlone kind rfl
    exact ⟨hst.symm, by simp, by simp, by simp⟩
  | rejected st' bits' hbits hlone hst hfailed hchecked =>
    simp only [State.releaseKey_reply, State.finishFailed_reply, Reply.result.injEq] at hreply
    obtain ⟨rfl, rfl, rfl⟩ := hreply
    refine ⟨?_, by simp [Op.ghostOnFailure], fun hok => absurd hok hst, fun _ => hlone kind rfl⟩
    by_cases hok : w.status = .ok
    · have hun := (hchecked hok).2
      cases hun
    · simpa using hfailed hok

end

/-- Settles O42: a status ends an exchange, with the verdict of its operation on what `RunCommand` ended with. -/
theorem failedOperationsReturnNoData : Obligations.FailedOperationsReturnNoData := by
  intro i s t st data bits h hreply
  obtain ⟨op, w, hop, hbeside, hends⟩ := runs_result h hreply
  have hghost : w.ghost = s.ghost := (ghost_of_besideOp hbeside).trans (startOf_ghost i s)
  have hreported := hends.verdict.reported hreply
  rw [← hop.runs, ← hends.status_eq]
  refine ⟨hends.idle, hreported.status, hreported.noData, fun hhost => ?_, fun hlone => ?_⟩
  · obtain ⟨-, hne⟩ | ⟨hframe, -⟩ := hop.lone_iff hends.exchanges
    · have hfailed := hreported.ghost
      rw [ghostOnFailure_host hne, hghost] at hfailed
      have hexchanges : i.op.exchanges = true := hop.exchanges ▸ hends.exchanges
      have hother {j : Instr} (hj : j.op.exchanges = false) : i ≠ j := fun h => by simp [h, hj] at hexchanges
      refine ⟨hother rfl, hother rfl,
        fun hst => ⟨hfailed hst, fun b hb => ?_⟩, fun hst => ?_, hreported.tag,
        fun hst hi => hreported.unchecked hst (hop.unchecked hi)⟩
      · rw [hfailed hst]
        exact allows_after_failure hb
      · simpa only [hop.scan_iff] using hreported.failed hst
    · simp [hhost] at hframe
  · obtain ⟨hhost, -⟩ | ⟨hframe, kind, rfl⟩ := hop.lone_iff hends.exchanges
    · exact absurd hhost hlone
    · obtain ⟨hst, hg, hok, hbits⟩ := hends.verdict.reported_lone hreply
      exact ⟨hframe, hst, hg.trans hghost, hok, hbits⟩

/-! ## SCAN and IDENTIFY -/

/-- A run of an instruction with one operation has ended that operation's exchange. -/
theorem runs_result_of_op {i : Instr} {s t : State} {st : Status} {data : List Byte} {bits : Option (BitVec 10)}
    (hone : i.op ≠ .write .one) (h : Runs i s t) (hreply : t.reply = .result st data bits) :
    ∃ w, w.besideOp = (startOf i s).besideOp ∧ EndsFrom i.op w t := by
  obtain ⟨op, w, rfl | ⟨hw, -⟩, hbeside, hends⟩ := runs_result h hreply
  · exact ⟨w, hbeside, hends⟩
  · exact absurd hw hone

/-- The length of a counted response fits its register. -/
theorem ResponseCounted.toNat_len {s : State} {len : Nat} (h : ResponseCounted s len) (hl : s.rxLen = BitVec.ofNat 7 len) :
    s.rxLen.toNat = len := by
  obtain ⟨-, h64, -⟩ := h
  rw [hl, BitVec.toNat_ofNat]
  omega

/-- Its bits end in its last byte (R233). -/
theorem ResponseCounted.bits {s : State} {len : Nat} (h : ResponseCounted s len) (hc : s.cfg.Wf) :
    (len - 1) * 8 < s.rxBits.toNat ∧ s.rxBits.toNat ≤ len * 8 := by
  obtain ⟨h1, h64, control, hbits⟩ := h
  obtain ⟨hlo, hhi⟩ := bitCount_bounds h1 (lastBits_le hc control)
  rw [hbits, BitVec.toNat_ofNat]
  omega

/-- Settles O43: the verdict of SCAN, and 16 bits are two whole bytes. -/
theorem scanIsOkOnlyOnSixteenBits : Obligations.ScanIsOkOnlyOnSixteenBits := by
  intro s t st data bits hc h hreply
  obtain ⟨w, hbeside, hends⟩ := runs_result_of_op (by simp [Instr.op]) h hreply
  have hcfg : w.cfg = s.cfg := (cfg_of_besideOp hbeside).trans rfl
  have hghost : w.ghost = s.ghost := (ghost_of_besideOp hbeside).trans rfl
  obtain ⟨k, hk⟩ := hends.ends
  obtain ⟨⟨hst, hbits⟩, hend⟩ | ⟨-, hend⟩ := endScan_cases w <;> obtain rfl := hk.trans hend <;> cases hreply
  · obtain ⟨len, hlen, hcount⟩ := hends.result.received hst rfl
    have hrange := hcount.bits (hcfg ▸ hc)
    rw [hbits] at hrange
    have hlen2 : len = 2 := by
      simp at hrange
      omega
    exact ⟨.inl rfl, fun _ => ⟨hbits, hlen.trans (by rw [hlen2]; rfl), rfl, by simp, rfl⟩, by simp⟩
  · exact ⟨.inr rfl, by simp, fun _ => congrArg Ghost.failed hghost⟩

/-- Settles O44: the verdict of IDENTIFY. -/
theorem identifyIsOkOnlyOnAValidIdentity : Obligations.IdentifyIsOkOnlyOnAValidIdentity := by
  intro s t st data bits h hreply hok
  obtain ⟨w, -, hends⟩ := runs_result_of_op (by simp [Instr.op]) h hreply
  obtain ⟨k, hk⟩ := hends.ends
  obtain ⟨⟨-, hlen, hbcc⟩, hend⟩ | ⟨-, hend⟩ | ⟨hst, hend⟩ := endIdentify_cases w <;> obtain rfl := hk.trans hend <;>
    cases hreply
  · exact ⟨hlen, rfl, by simp, hbcc, rfl⟩
  · cases hok
  · exact absurd hok hst

/-- Settles O45: the verdict of IDENTIFY on five bytes. -/
theorem identityIsAcceptedExactlyOnItsCheckByte : Obligations.IdentityIsAcceptedExactlyOnItsCheckByte := by
  intro s hlen
  obtain ⟨⟨-, -, hbcc⟩, hend⟩ | ⟨⟨hst, hinvalid⟩, hend⟩ | ⟨hst, hend⟩ := endIdentify_cases s <;> rw [hend]
  · exact ⟨fun _ => ⟨fun _ => hbcc, fun _ => rfl⟩, fun hne => absurd hbcc hne⟩
  · have hwrong := fun hbcc => hinvalid ⟨hlen, hbcc⟩
    exact ⟨fun _ => ⟨nofun, fun hbcc => absurd hbcc hwrong⟩, fun _ data bits => nofun⟩
  · refine ⟨fun hok => absurd hok hst, fun _ data bits h => ?_⟩
    simp only [State.finishFailed_reply, Reply.result.injEq] at h
    exact hst h.1

/-! ## SELECT and READ -/

/-- Settles O46: SELECT with Ok returns what the exchange received and counted. -/
theorem selectReturnsTheResponseAsReceived : Obligations.SelectReturnsTheResponseAsReceived := by
  intro sn s t st data bits hc h hreply hok
  obtain ⟨w, hbeside, hends⟩ := runs_result_of_op (by simp [Instr.op]) h hreply
  have hcfg : w.cfg = s.cfg := (cfg_of_besideOp hbeside).trans rfl
  obtain ⟨k, hk⟩ := hends.ends
  obtain ⟨hst, hend⟩ | ⟨hst, hend⟩ := endSelect_cases w <;> obtain rfl := hk.trans hend <;> cases hreply
  · obtain ⟨len, hlen, hcount⟩ := hends.result.received hst rfl
    have hn := hcount.toNat_len hlen
    obtain ⟨hlo, hhi⟩ := hcount.bits (hcfg ▸ hc)
    obtain ⟨h1, h64, -⟩ := hcount
    have hdata : (firstBytes w.rxBuf w.rxLen.toNat).length = len := by rw [length_firstBytes, hn, Nat.min_eq_left h64]
    rw [hdata]
    exact ⟨rfl, hn.symm, h1, h64, rfl, hlo, hhi, rfl⟩
  · exact absurd hok hst

/-- Settles O48: READ with Ok returns the first 16 bytes, and its frame was closed by the CRC bytes read. -/
theorem readReturnsExactlySixteenBytes : Obligations.ReadReturnsExactlySixteenBytes := by
  intro b s t st data bits h hreply hok
  obtain ⟨w, hbeside, hends⟩ := runs_result_of_op (by simp [Instr.op]) h hreply
  have hpayload : Op.payload w .read = [s.cfg.picc.read, b] := payload_of_besideOp hbeside .read
  obtain ⟨hlen, hframe⟩ := hends.closed (show Op.read.crcPayload ≠ 0 by decide)
  obtain ⟨k, hk⟩ := hends.ends
  obtain ⟨⟨-, h16⟩, hend⟩ | ⟨-, hend⟩ | ⟨hst, hend⟩ := endRead_cases w <;> obtain rfl := hk.trans hend <;> cases hreply
  · exact ⟨rfl, by simp, h16, BitVec.eq_of_toNat_eq hlen, hpayload ▸ hframe⟩
  · cases hok
  · exact absurd hok hst

/-! ## WRITE -/

/-- Settles O50: a status of WRITE comes from either phase, Ok from the second alone, which sent the closed data frame. -/
theorem writeIsOkOnlyAfterTheDataFrame : Obligations.WriteIsOkOnlyAfterTheDataFrame := by
  intro b d s t st data bits h hreply
  obtain ⟨op, w, hop, hbeside, hends⟩ := runs_result h hreply
  have hcfg : w.cfg = s.cfg := (cfg_of_besideOp hbeside).trans rfl
  have hdata : w.data = d := (latches_of_besideOp hbeside).2.2.2.2
  obtain ⟨k, hk⟩ := hends.ends
  obtain rfl | ⟨-, rfl⟩ := hop
  · obtain ⟨-, hend⟩ | ⟨hst, hend⟩ := endWrite_one_cases w k <;> obtain rfl := hk.trans hend
    · have hidle := hends.idle
      cases hidle
    · cases hreply
      exact ⟨rfl, rfl, fun hok => absurd hok hst⟩
  · obtain ⟨hst, hend⟩ | ⟨hst, hend⟩ := endWrite_two_cases w k <;> obtain rfl := hk.trans hend <;> cases hreply
    · obtain ⟨hlen, hframe⟩ := hends.closed (by decide)
      obtain ⟨-, hack⟩ := (phaseStatus_ok_iff w).1 hst
      exact ⟨rfl, rfl, fun _ => ⟨BitVec.eq_of_toNat_eq hlen, hdata ▸ hframe, hcfg ▸ hack⟩⟩
    · exact ⟨rfl, rfl, fun hok => absurd hok hst⟩

/-- Every instruction that is accepted runs its own operation, or is turned away at once. -/
theorem startOf_op {i : Instr} {s : State} {op : Op} {k : Nat} {p : Point} (hs : s.seq = .idle)
    (h : (startOf i s).seq = .run op k p) : op = i.op := by
  cases i with
  | rdreg a d =>
    change (startRdreg a s).seq = _ at h
    obtain ⟨-, hst⟩ | ⟨-, hst⟩ := startRdreg_cases a s <;> rw [hst] at h
    · cases h
      rfl
    · rw [State.turnAway_seq, hs] at h
      cases h
  | wrreg a v =>
    change (startWrreg a v s).seq = _ at h
    obtain ⟨-, hst⟩ | ⟨-, hst⟩ := startWrreg_cases a v s <;> rw [hst] at h
    · cases h
      rfl
    · rw [State.turnAway_seq, hs] at h
      cases h
  | _ => cases h; rfl

/-- The second phase of WRITE has just been entered: phase 1 was Ok, its acknowledgment passed, and the data is staged. -/
structure EntersPhaseTwo (s t : State) : Prop where
  status : t.status = .ok
  acknowledged : ackPasses s.cfg t.rxBits t.rxBuf = true
  length : t.txLen = 16
  frame : firstBytes t.txBuf 16 = s.data.toList

/-- A transaction of phase 1's exchange stays in it, enters phase 2, or ends WRITE without Ok. -/
theorem tick_phaseOne {s : State} {k : Nat} {q : RunPoint} (hs : s.seq = .run (.write .one) k (.run q)) (a : Answer) :
    (∃ q', (tick s a).seq = .run (.write .one) (k + 1) (.run q')) ∨
    ((tick s a).seq = .run (.write .two) (k + 1) (.crc .clearRead) ∧ EntersPhaseTwo s (tick s a)) ∨
    ((tick s a).seq = .idle ∧ ∃ st, st ≠ Status.ok ∧ (tick s a).reply = .result st [] none) ∨
    ((tick s a).seq = .fault ∧ a = .failed) := by
  cases a with
  | failed => exact .inr (.inr (.inr ⟨(tick_failed_latches ((running_iff s).2 ⟨_, _, _, hs⟩)).2, rfl⟩))
  | done v =>
    have hcfg : (tick s (.done v)).cfg = s.cfg := (tick_outside s _).1
    have hdata : (tick s (.done v)).data = s.data := (tick_latches hs _).others.2.2.2
    rw [tick_done hs] at hcfg hdata ⊢
    obtain ⟨w, -, ⟨q', h⟩ | h⟩ := runAdvance_goesOnOrEnds (op := .write .one) (k := k + 1)
      (s := s.record (request s (.write .one) (.run q)) v) v q <;>
      rw [advance, h] at hcfg hdata ⊢
    · exact .inl ⟨q', rfl⟩
    · obtain ⟨hst, hend⟩ | ⟨hst, hend⟩ := endWrite_one_cases w (k + 1) <;>
        rw [State.endRun, hend] at hcfg hdata ⊢
      · obtain ⟨hok, hack⟩ := (phaseStatus_ok_iff w).1 hst
        obtain ⟨hlen, hframe⟩ := payloadReady_stage (op := .write .two) (s := w) rfl
        exact .inr (.inl ⟨rfl, hok, hcfg ▸ hack, BitVec.eq_of_toNat_eq hlen, hdata ▸ hframe⟩)
      · exact .inr (.inr (.inl ⟨rfl, _, hst, rfl⟩))

/-- A transaction that comes to phase 2 comes from it, or enters it from phase 1's exchange. -/
theorem tick_phaseTwo {s : State} {a : Answer} {k' : Nat} {p' : Point}
    (h : (tick s a).seq = .run (.write .two) k' p') :
    (∃ k p, s.seq = .run (.write .two) k p) ∨
    (∃ k q, s.seq = .run (.write .one) k (.run q) ∧ k' = k + 1 ∧ p' = .crc .clearRead ∧
      EntersPhaseTwo s (tick s a)) := by
  cases hrun : s.running with
  | false =>
    rw [tick_rest hrun] at h
    exact .inl ⟨k', p', h⟩
  | true =>
  obtain ⟨op, k, p, hs⟩ := (running_iff s).1 hrun
  cases a with
  | failed =>
    rw [(tick_failed_latches hrun).2] at h
    cases h
  | done v =>
    have hleads : LeadsTo op (k + 1) p (tick s (.done v)) := tick_done hs v ▸ advance_leads _ v
    obtain hidle | ⟨p'', hgo, -⟩ | ⟨rfl, ⟨q, rfl⟩, -⟩ := hleads
    · rw [hidle] at h
      cases h
    · cases hgo.symm.trans h
      exact .inl ⟨k, p, hs⟩
    · obtain ⟨q', hq⟩ | ⟨hq, hentered⟩ | ⟨hq, -⟩ | ⟨hq, -⟩ := tick_phaseOne hs (.done v) <;> cases hq.symm.trans h
      exact .inr ⟨k, q, hs, rfl, rfl, hentered⟩

/-- Settles O49: of the ways a step can go, only a transaction comes to phase 2 from elsewhere. -/
theorem phaseTwoFollowsOnlyAnOkPhaseOne : Obligations.PhaseTwoFollowsOnlyAnOkPhaseOne := by
  refine ⟨fun s t k' q h hseq => ?_, fun s k p a hs => ?_⟩
  · obtain ⟨-, hstep⟩ | ⟨-, o, rest, i, -, -, hstep⟩ | ⟨-, o, rest, r, -, -, hstep⟩ | ⟨-, -, hstep⟩ := step_cases s
    · cases hstep.symm.trans h
      cases hseq
    · obtain ⟨why, rfl⟩ | ⟨⟨hidle, -⟩, rfl⟩ := exec_cases (hstep.symm.trans h)
      · exact .inl ⟨k', q, hseq⟩
      · have hop := startOf_op hidle hseq
        cases i with
        | _ => cases hop
    · cases hstep.symm.trans h
      exact .inl ⟨k', q, hseq⟩
    · cases hstep.symm.trans h
      cases hrun : s.running with
      | false =>
        rw [proceed_rest hrun] at hseq
        exact .inl ⟨k', q, hseq⟩
      | true =>
        have hdata : s.drawn.data = s.data := by unfold State.drawn; split <;> rfl
        rw [proceed_run hrun] at hseq ⊢
        have hphase := tick_phaseTwo hseq
        rw [State.drawn_seq] at hphase
        obtain hin | ⟨k, p, hs, hk, hq, hst, hack, hlen, hframe⟩ := hphase
        · exact .inl hin
        · exact .inr ⟨k, p, hs, hk, hq, hst, s.drawn_cfg ▸ hack, hlen, hdata ▸ hframe⟩
  · obtain h | ⟨h, hst, hack, hlen, hframe⟩ | h | h := tick_phaseOne hs a
    · exact .inl h
    · exact .inr (.inl ⟨h, hst, hack, hlen, hframe⟩)
    · exact .inr (.inr (.inl h))
    · exact .inr (.inr (.inr h))

end Sys2Proof.Machine
end

section
/-! SUPPORT. Playing an exchange to its end, with a response, without one, or over an exhausted poll; and playing `calculateCRC`
(R229, R231 to R234, R266, R268, R270). -/

namespace Sys2Proof.Machine

/-! ## An exchange that succeeds (R228 to R234) -/

/-- What the bus answers to a Transceive that ends Ok with the bytes `rx`. -/
structure ExchangeSucceeds (c : Config) (quiet : List Byte) (last err lvl : Byte) (rx : List Byte) : Prop where
  poll : PollSucceeds c .transceive quiet last
  error : errorMasked c err = false
  tag : noTag c .transceive last = false
  level : rx.length = clampLevel lvl

/-- `RunCommand` has received the bytes `rx` and counted them (R233, R234). -/
structure Received (s : State) (rx : List Byte) (control : Byte) : Prop where
  range : 1 ≤ rx.length ∧ rx.length ≤ 64
  status : s.status = .ok
  length : s.rxLen = BitVec.ofNat 7 rx.length
  bits : s.rxBits = BitVec.ofNat 10 (bitCount rx.length (lastBits s.cfg control))
  bytes : firstBytes s.rxBuf rx.length = rx

section
variable {op : Op} {k : Nat} {s : State}

/-- Step 4: the bytes from byte `i` on are drained (R234, R147). -/
theorem plays_drain (rx : List Byte) {s : State} {len i k : Nat} (hs : s.seq = .run op k (.run (.drain len i)))
    (hne : rx ≠ []) (hlen : i + rx.length = len) :
    ∃ (w : State) (k' : Nat), Plays s (rx.map (.read s.cfg.reg.fifoData)) (w.endRun op k') ∧
      w.besideRun = s.besideRun ∧ w.status = s.status ∧ w.rxBits = s.rxBits ∧ w.rxLen = BitVec.ofNat 7 len ∧
      w.rxBuf = putBytes s.rxBuf i rx := by
  induction rx generalizing s i k with
  | nil => exact absurd rfl hne
  | cons v rx ih =>
    have hread := plays_read hs (a := s.cfg.reg.fifoData) rfl v
    by_cases hrx : rx = []
    · subst hrx
      simp only [List.length_singleton] at hlen
      have hlast (u : State) : advance u op (k + 1) v (.run (.drain len i)) =
          State.endRun { u with rxBuf := putBytes u.rxBuf i [v], rxLen := BitVec.ofNat 7 len } op (k + 1) :=
        if_neg (by omega)
      rw [hlast] at hread
      exact ⟨_, _, hread, rfl, rfl, rfl, rfl, rfl⟩
    · have hpos := List.length_pos_of_ne_nil hrx
      simp only [List.length_cons] at hlen
      have hnext (u : State) : advance u op (k + 1) v (.run (.drain len i)) =
          State.goto { u with rxBuf := putBytes u.rxBuf i [v] } op (k + 1) (.run (.drain len (i + 1))) :=
        if_pos (by omega)
      rw [hnext] at hread
      obtain ⟨w, k', hplays, hbeside, hst, hbits, hl, hbuf⟩ := ih (k := k + 1) (i := i + 1)
        (s := State.goto { s.record (.read s.cfg.reg.fifoData) v with rxBuf := putBytes s.rxBuf i [v] } op (k + 1)
          (.run (.drain len (i + 1)))) rfl hrx (by omega)
      exact ⟨w, k', hread.trans hplays, hbeside, hst, hbits, hl, hbuf⟩

/-- Step 4 whole (R233, R234). -/
theorem plays_response (hs : s.seq = .run op k (.run .level)) (hst : s.status = .ok) {lvl : Byte} {rx : List Byte}
    (hrx : rx.length = clampLevel lvl) (control : Byte) :
    ∃ (w : State) (k' : Nat), Plays s (responseTrace s.cfg lvl control rx) (w.endRun op k') ∧
      w.besideRun = s.besideRun ∧ Received w rx control := by
  obtain ⟨h1, h64⟩ := clampLevel_bounds lvl
  have hlevel := plays_read hs (a := s.cfg.reg.fifoLevel) rfl lvl
  have hcontrol := plays_read (s := (s.record (.read s.cfg.reg.fifoLevel) lvl).goto op (k + 1) (.run (.control lvl)))
    rfl (a := s.cfg.reg.control) rfl control
  obtain ⟨w, k', hdrain, hbeside, hstatus, hbits, hlen, hbuf⟩ := plays_drain (k := k + 2) (i := 0) rx
    (s := afterControl (((s.record (.read s.cfg.reg.fifoLevel) lvl).goto op (k + 1) (.run (.control lvl))).record
      (.read s.cfg.reg.control) control) op (k + 2) lvl control)
    rfl (List.ne_nil_of_length_pos (by omega)) ((Nat.zero_add _).trans hrx)
  have hcfg : w.cfg = s.cfg := cfg_of_besideOp (besideOp_of_besideRun (s := s) hbeside)
  refine ⟨w, k', (hlevel.trans hcontrol).trans hdrain, hbeside, ⟨by omega, by omega⟩, hstatus.trans hst, ?_, ?_, ?_⟩
  · rw [hlen, hrx]
  · rw [hbits, hrx, hcfg]
    rfl
  · rw [hbuf, firstBytes_putBytes _ _ (by omega)]

/-- With no masked error and no missing tag, Transceive goes on to read the response (R233). -/
theorem afterError_transceive (hop : op.runs = .transceive) (herr : errorMasked s.cfg s.errV = false)
    (htag : noTag s.cfg .transceive s.irqV = false) (k : Nat) :
    afterError s op k = { s with status := .ok }.goto op k (.run .level) := by
  simp [afterError, hop, herr, htag]

/-- `RunCommand` whole, for a Transceive that ends Ok (R220). -/
theorem plays_transceive (hs : s.seq = .run op k (.run .enable)) (hop : op.runs = .transceive)
    (hlen : s.txLen.toNat ≤ 64) {quiet rx : List Byte} {last err lvl : Byte}
    (h : ExchangeSucceeds s.cfg quiet last err lvl rx) (irq lvl0 framing framing' control : Byte) :
    ∃ (w : State) (k' : Nat), Plays s (startTrace s.cfg .transceive (firstBytes s.txBuf s.txLen.toNat) irq lvl0 framing ++
        pollTrace s.cfg (quiet ++ [last]) ++ outcomeTrace s.cfg framing' err ++ responseTrace s.cfg lvl control rx)
        (w.endRun op k') ∧
      w.besideRun = s.besideRun ∧ Received w rx control := by
  obtain ⟨u, k1, hplays, hsteady, rfl, rfl⟩ := plays_untilError hs hlen (hop ▸ h.poll) irq lvl0 framing framing' err
  have hc : u.cfg = s.cfg := cfg_of_steady hsteady
  rw [hop, afterError_transceive hop (hc ▸ h.error) (hc ▸ h.tag)] at hplays
  obtain ⟨w, k', hresponse, hbeside, hreceived⟩ := plays_response
    (s := { u with status := .ok }.goto op k1 (.run .level)) rfl rfl h.level control
  refine ⟨w, k', hplays.trans ?_, hbeside.trans (besideRun_of_steady hsteady :), hreceived⟩
  rw [← hc]
  exact hresponse

/-! ## An exchange that fails (R229, R231, R232) -/

/-- A masked error bit, then the NoTagError predicate, ends the exchange without data (R231, R232, R237). -/
theorem afterError_failed (hfail : errorMasked s.cfg s.errV = true ∨ noTag s.cfg op.runs s.irqV = true) (k : Nat) :
    afterError s op k =
      (s.noData (if errorMasked s.cfg s.errV then .protocolError else .noTagError)).endRun op k := by
  unfold afterError
  split
  · rfl
  next herr => rw [if_pos (hfail.resolve_left herr)]

/-- Polls that show no terminating bit, while budget is left, lead back to the poll (R228). -/
theorem arrives_quiet (quiet : List Byte) {s : State} {k : Nat} (hs : s.seq = .run op k (.run .poll))
    (hquiet : ∀ v ∈ quiet, pollSees s.cfg op.runs v = false) (hcnt : quiet.length < s.cnt.toNat) :
    ∃ t, Arrives op s (pollTrace s.cfg quiet) .poll t ∧ t.cnt.toNat + quiet.length = s.cnt.toNat := by
  induction quiet generalizing s k with
  | nil => exact ⟨s, arrives_refl hs, rfl⟩
  | cons v quiet ih =>
    obtain ⟨hv, hquiet⟩ := List.forall_mem_cons.1 hquiet
    simp only [List.length_cons] at hcnt ⊢
    obtain ⟨t, ht, -, hleft⟩ := arrives_pollRead hs (by omega) v
    rw [if_neg (by simp [hv])] at ht
    have hc := cfg_of_steady ht.steady
    obtain ⟨k', hs'⟩ := ht.place
    obtain ⟨u, hu, hcount⟩ := ih hs' (hc ▸ hquiet) (by omega)
    exact ⟨u, ht.trans (hc ▸ hu), by omega⟩

/-- The poll read that takes the counter to 0 ends the exchange, whatever it shows (R229). -/
theorem plays_lastPoll (hs : s.seq = .run op k (.run .poll)) (hcnt : s.cnt = 1) (last : Byte) :
    ∃ w : State, Plays s (pollTrace s.cfg [last]) ((w.noData .protocolError).endRun op (k + 1)) ∧
      w.steady = s.steady := by
  have hread := plays_read hs (a := s.cfg.reg.comIrq) rfl last
  have hend (u : State) (hu : u.cnt = 1) : advance u op (k + 1) last (.run .poll) =
      (State.noData { u with irqV := last, cnt := u.cnt - 1 } .protocolError).endRun op (k + 1) :=
    if_pos (show u.cnt - 1 = 0 by rw [hu]; rfl)
  rw [hend (s.record _ last) hcnt] at hread
  exact ⟨_, hread, rfl⟩

/-- `RunCommand` whole, over a poll that exhausts its budget (R229). -/
theorem plays_exhausted (hs : s.seq = .run op k (.run .enable)) (hlen : s.txLen.toNat ≤ 64) {quiet : List Byte}
    (hpoll : PollExhausted s.cfg op.runs quiet) (irq lvl0 framing last : Byte) :
    ∃ (w : State) (k' : Nat), Plays s (startTrace s.cfg op.runs (firstBytes s.txBuf s.txLen.toNat) irq lvl0 framing ++
        pollTrace s.cfg (quiet ++ [last])) ((w.noData .protocolError).endRun op k') ∧
      w.steady = s.steady := by
  obtain ⟨hquiet, hbudget⟩ := hpoll
  obtain ⟨t, hstart, hcnt⟩ := arrives_startTrace hs hlen irq lvl0 framing
  have hc := cfg_of_steady hstart.steady
  obtain ⟨k1, hs1⟩ := hstart.place
  obtain ⟨u, hpolled, hleft⟩ := arrives_quiet quiet hs1 (hc ▸ hquiet) (by rw [hcnt]; omega)
  obtain ⟨k2, hs2⟩ := hpolled.place
  have hone : u.cnt = 1 := BitVec.eq_of_toNat_eq (by rw [hcnt] at hleft; simp; omega)
  obtain ⟨w, hlast, hsteady⟩ := plays_lastPoll hs2 hone last
  have hc' := cfg_of_steady hpolled.steady
  rw [hc', hc] at hlast
  rw [hc] at hpolled
  refine ⟨w, k2 + 1, ?_, (hsteady.trans hpolled.steady).trans hstart.steady⟩
  have hplays := (hstart.plays.trans hpolled.plays).trans hlast
  rwa [List.append_assoc, pollTrace, pollTrace, ← List.map_append] at hplays

/-! ## The framing write (R180, R185) -/

/-- The framing write is made and the frame staged (R181, R186). -/
theorem plays_framing (hs : s.seq = .run op k .framing) (hf : op.frames = true) :
    ∃ t : State, Plays s [.write s.cfg.reg.bitFraming op.framing] t ∧ t.seq = .run op (k + 1) (.run .enable) ∧
      t.besideOp = s.besideOp ∧ t.txLen.toNat ≤ 64 ∧ firstBytes t.txBuf t.txLen.toNat = op.framedFrame s.cfg := by
  obtain ⟨-, hl⟩ := Op.framedFrame_length hf s.cfg
  have hle := op.frameLength_le
  have hlen (u : State) : (u.stage (op.framedFrame s.cfg)).txLen.toNat = op.frameLength := stage_txLen_toNat hl hle
  have hwrite : Plays s [.write s.cfg.reg.bitFraming op.framing]
      (((s.wrote s.cfg.reg.bitFraming op.framing).stage (op.framedFrame s.cfg)).goto op (k + 1) (.run .enable)) :=
    plays_write hs rfl fun _ => if_neg (by rw [Config.fifoSize, State.record_cfg, hlen]; omega)
  refine ⟨_, hwrite, rfl, rfl, ?_, ?_⟩
  · rw [State.goto_txLen, hlen]
    omega
  · rw [State.goto_txLen, hlen, State.goto_txBuf, State.stage_txBuf, ← hl, firstBytes_putBytes _ _ (by omega)]

/-! ## `calculateCRC` (R268) -/

/-- Playing a trace of `calculateCRC` leads to its place `q`. -/
structure ArrivesCrc (op : Op) (s : State) (es : List Event) (q : CrcPoint) (t : State) : Prop where
  plays : Plays s es t
  place : ∃ k, t.seq = .run op k (.crc q)
  steady : t.steady = s.steady

theorem ArrivesCrc.trans {t u : State} {es es' : List Event} {q q' : CrcPoint} (h : ArrivesCrc op s es q t)
    (h' : ArrivesCrc op t es' q' u) : ArrivesCrc op s (es ++ es') q' u :=
  ⟨h.plays.trans h'.plays, h'.place, h'.steady.trans h.steady⟩

/-- A use of a register helper is played from its read to where its write leads, and changes nothing but `E.TMP`. -/
theorem HelperUse.plays_steady {pr pw : Point} {addr : RegMap → Byte} {bits : Masks → Byte → Byte}
    (h : HelperUse op pr pw addr bits) (f : State → State) (hs : s.seq = .run op k pr) (v : Byte)
    (hnext : ∀ u w, advance u op (k + 2) w pw = f u) :
    ∃ u : State, Plays s [.read (addr s.cfg.reg) v, .write (addr s.cfg.reg) (bits s.cfg.bit v)] (f u) ∧
      u.steady = s.steady := by
  have hread := plays_read hs (h.read s) v
  rw [h.keep] at hread
  have hwrite := plays_write (s := { s.record (.read (addr s.cfg.reg)) v with tmp := v }.goto op (k + 1) pw) rfl
    (h.write _) fun w => hnext (State.wrote _ _ _) w
  exact ⟨_, hread.trans hwrite, rfl⟩

/-- The CRC request bit is cleared (R260). -/
theorem arrivesCrc_clear (hs : s.seq = .run op k (.crc .clearRead)) (irq : Byte) :
    ∃ t, ArrivesCrc op s (clearBitsTrace s.cfg.reg.divIrq irq s.cfg.bit.crcIRq) .flushRead t := by
  obtain ⟨u, hplays, hsteady⟩ := (crcClear_helperUse op).plays_steady
    (fun u => u.goto op (k + 2) (.crc .flushRead)) hs irq fun _ _ => rfl
  exact ⟨_, hplays, ⟨k + 2, rfl⟩, hsteady⟩

theorem crcPush_steady (s : State) (op : Op) (k i : Nat) : (crcPush s op k i).steady = s.steady := by
  unfold crcPush
  split <;> rfl

/-- The staged bytes from byte `i` on are pushed (R262, R146). -/
theorem arrivesCrc_push (n : Nat) {s : State} {i : Nat} (hn : i + n = s.txLen.toNat) (k : Nat) :
    ∃ t, ArrivesCrc op (crcPush s op k i)
      ((List.range' i n).map fun j => .write s.cfg.reg.fifoData (byteAt s.txBuf j)) .start t := by
  induction n generalizing s i k with
  | zero =>
    have hstart : crcPush s op k i = s.goto op k (.crc .start) := if_neg (by omega)
    exact ⟨_, Plays.refl _, by rw [hstart]; exact ⟨k, rfl⟩, rfl⟩
  | succ n ih =>
    have hpush : crcPush s op k i = s.goto op k (.crc (.push i)) := if_pos (by omega)
    have hwrite : Plays (s.goto op k (.crc (.push i))) [.write s.cfg.reg.fifoData (byteAt s.txBuf i)]
        (crcPush ((s.goto op k (.crc (.push i))).wrote s.cfg.reg.fifoData (byteAt s.txBuf i)) op (k + 1) (i + 1)) :=
      plays_write rfl rfl fun _ => rfl
    obtain ⟨t, ht⟩ := ih (s := (s.goto op k (.crc (.push i))).wrote s.cfg.reg.fifoData (byteAt s.txBuf i)) (i := i + 1)
      (by simp; omega) (k + 1)
    refine ⟨t, ?_, ht.place, ?_⟩
    · rw [hpush]
      exact hwrite.trans ht.plays
    · rw [ht.steady, crcPush_steady, crcPush_steady]
      rfl

/-- The FIFO is flushed and the payload pushed (R261, R262). -/
theorem arrivesCrc_payload (hs : s.seq = .run op k (.crc .flushRead)) (hlen : s.txLen.toNat ≤ 64) (lvl : Byte) :
    ∃ t, ArrivesCrc op s (setBitsTrace s.cfg.reg.fifoLevel lvl s.cfg.bit.flushBuffer ++
      (firstBytes s.txBuf s.txLen.toNat).map (.write s.cfg.reg.fifoData)) .start t := by
  obtain ⟨u, hflush, hsteady⟩ := (crcFlush_helperUse op).plays_steady (fun u => crcPush u op (k + 2) 0) hs lvl
    fun _ _ => rfl
  obtain ⟨hbuf, hl⟩ := sameTx_of_steady hsteady
  obtain ⟨t, ht⟩ := arrivesCrc_push (op := op) u.txLen.toNat (s := u) (i := 0) (Nat.zero_add _) (k + 2)
  have hplays := ht.plays
  rw [← List.range_eq_range', hl, hbuf, cfg_of_steady hsteady] at hplays
  refine ⟨t, ?_, ht.place, ?_⟩
  · rw [firstBytes_eq _ _ hlen, List.map_map]
    exact hflush.trans hplays
  · rw [ht.steady, crcPush_steady, hsteady]

/-- The CRC command starts, and the poll counter with it (R263, R266). -/
theorem arrivesCrc_start (hs : s.seq = .run op k (.crc .start)) :
    ∃ t, ArrivesCrc op s [.write s.cfg.reg.command (s.cfg.cmd.code .calcCrc)] .poll t ∧ t.cnt = s.cfg.crcBudget := by
  have hwrite : Plays s [.write s.cfg.reg.command (s.cfg.cmd.code .calcCrc)]
      (State.goto { s.wrote s.cfg.reg.command (s.cfg.cmd.code .calcCrc) with cnt := s.cfg.crcBudget } op (k + 1)
        (.crc .poll)) := plays_write hs rfl fun _ => rfl
  exact ⟨_, ⟨hwrite, ⟨k + 1, rfl⟩, rfl⟩, rfl⟩

/-- One poll read takes the counter down by one, and leaves the poll at 0 or at the CRC-done flag (R266). -/
theorem arrivesCrc_pollRead (hs : s.seq = .run op k (.crc .poll)) (hcnt : 1 ≤ s.cnt.toNat) (v : Byte) :
    ∃ t, ArrivesCrc op s [.read s.cfg.reg.divIrq v]
      (if s.cnt.toNat = 1 ∨ crcDone s.cfg v = true then .resultL else .poll) t ∧ t.cnt.toNat + 1 = s.cnt.toNat := by
  have hleft : (s.cnt - 1).toNat + 1 = s.cnt.toNat := by
    rw [BitVec.toNat_sub_of_le (by bv_omega)]
    simp; omega
  have hzero : s.cnt - 1 = 0 ↔ s.cnt.toNat = 1 := by bv_omega
  have hread := plays_read hs (a := s.cfg.reg.divIrq) rfl v
  have hnext (u : State) : advance u op (k + 1) v (.crc .poll) =
      State.goto { u with irqV := v, cnt := u.cnt - 1 } op (k + 1)
        (.crc (if u.cnt - 1 = 0 ∨ crcDone u.cfg v = true then .resultL else .poll)) := by
    simp only [advance, crcAdvance]
    split <;> rfl
  rw [hnext, State.record_cnt, State.record_cfg] at hread
  simp only [← hzero]
  exact ⟨_, ⟨hread, ⟨k + 1, rfl⟩, rfl⟩, hleft⟩

/-- The CRC poll leaves at its last read, whichever way (R266, R269). -/
theorem arrivesCrc_poll (quiet : List Byte) {last : Byte} {s : State} {k : Nat} (hs : s.seq = .run op k (.crc .poll))
    (hquiet : ∀ v ∈ quiet, crcDone s.cfg v = false) (hle : quiet.length + 1 ≤ s.cnt.toNat)
    (hlast : quiet.length + 1 = s.cnt.toNat ∨ crcDone s.cfg last = true) :
    ∃ t, ArrivesCrc op s ((quiet ++ [last]).map (.read s.cfg.reg.divIrq)) .resultL t := by
  induction quiet generalizing s k with
  | nil =>
    obtain ⟨t, ht, -⟩ := arrivesCrc_pollRead hs hle last
    have hleaves : s.cnt.toNat = 1 ∨ crcDone s.cfg last = true := hlast.imp_left Eq.symm
    rw [if_pos hleaves] at ht
    exact ⟨t, ht⟩
  | cons v quiet ih =>
    obtain ⟨hv, hquiet⟩ := List.forall_mem_cons.1 hquiet
    simp only [List.length_cons] at hle hlast
    obtain ⟨t, ht, hleft⟩ := arrivesCrc_pollRead hs (by omega) v
    rw [if_neg (by simp [hv]; omega)] at ht
    have hc := cfg_of_steady ht.steady
    obtain ⟨k', hs'⟩ := ht.place
    obtain ⟨u, hu⟩ := ih hs' (hc ▸ hquiet) (by omega) (hc ▸ hlast.imp_left fun h => by omega)
    exact ⟨u, ht.trans (hc ▸ hu)⟩

theorem putBytes_crc (b : Bytes 2) (lo hi : Byte) : putBytes (putBytes b 0 [lo]) 1 [hi] = #v[lo, hi] := by
  apply Vector.ext
  intro i hi
  obtain rfl | rfl : i = 0 ∨ i = 1 := by omega
  · simp [putBytes]
  · simp [putBytes]

/-- The second result byte closes the frame, and the exchange is entered (R267, R270). -/
theorem plays_resultM (hs : s.seq = .run op k (.crc .resultM)) (hready : PayloadReady op s) (hc : op.crcPayload ≠ 0)
    (hi : Byte) :
    ∃ t : State, Plays s [.read s.cfg.reg.crcResultM hi] t ∧ t.seq = .run op (k + 1) (.run .enable) ∧
      t.besideOp = s.besideOp ∧ t.crc = putBytes s.crc 1 [hi] ∧ FrameClosed op t := by
  have hclosed : FrameClosed op
      (State.appendCrc { s.record (.read s.cfg.reg.crcResultM) hi with crc := putBytes s.crc 1 [hi] }) :=
    frameClosed_appendCrc ⟨hready.length, hready.bytes⟩
  have hfits : ¬ Config.fifoSize <
      (State.appendCrc { s.record (.read s.cfg.reg.crcResultM) hi with crc := putBytes s.crc 1 [hi] }).txLen.toNat := by
    have hle := op.frameLength_le
    rw [Config.fifoSize, (hclosed hc).1]
    omega
  have hread := plays_read hs (a := s.cfg.reg.crcResultM) rfl hi
  rw [show advance _ op (k + 1) hi (.crc .resultM) = _ from if_neg hfits] at hread
  exact ⟨_, hread, rfl, rfl, rfl, hclosed⟩

/-- The two result bytes become `E.CRC` and close the frame (R267, R270). -/
theorem plays_crcResult (hs : s.seq = .run op k (.crc .resultL)) (hready : PayloadReady op s)
    (hc : op.crcPayload ≠ 0) (lo hi : Byte) :
    ∃ t : State, Plays s [.read s.cfg.reg.crcResultL lo, .read s.cfg.reg.crcResultM hi] t ∧
      t.seq = .run op (k + 2) (.run .enable) ∧ t.besideOp = s.besideOp ∧ t.crc = #v[lo, hi] ∧ FrameClosed op t := by
  have hlo := plays_read hs (a := s.cfg.reg.crcResultL) rfl lo
  obtain ⟨t, hhi, hseq, hbeside, hcrc, hclosed⟩ := plays_resultM (op := op) (k := k + 1)
    (s := State.goto { s.record (.read s.cfg.reg.crcResultL) lo with crc := putBytes s.crc 0 [lo] } op (k + 1)
      (.crc .resultM)) rfl ⟨hready.length, hready.bytes⟩ hc hi
  exact ⟨t, hlo.trans hhi, hseq, hbeside, hcrc.trans (putBytes_crc s.crc lo hi), hclosed⟩

theorem PayloadReady.of_steady {t : State} (h : PayloadReady op s) (hst : t.steady = s.steady) : PayloadReady op t := by
  obtain ⟨hbuf, hlen⟩ := sameTx_of_steady hst
  have hpayload := payload_of_besideOp (besideOp_of_besideRun (besideRun_of_steady hst)) op
  exact ⟨hlen ▸ h.length, by rw [hbuf, hpayload, h.bytes]⟩

/-- `calculateCRC` whole: the payload is closed by the two bytes the bus answers, and the exchange follows (R268, R270). -/
theorem plays_crc (hs : s.seq = .run op k (.crc .clearRead)) (hready : PayloadReady op s) (hc : op.crcPayload ≠ 0)
    {quiet : List Byte} {last : Byte} (hpoll : CrcPollLeaves s.cfg quiet last) (irq lvl lo hi : Byte) :
    ∃ (t : State) (k' : Nat), Plays s (crcTrace s.cfg (op.payload s) irq lvl (quiet ++ [last]) lo hi) t ∧
      t.seq = .run op k' (.run .enable) ∧ t.besideOp = s.besideOp ∧ t.crc = #v[lo, hi] ∧ FrameClosed op t := by
  obtain ⟨hquiet, hbudget, hlast⟩ := hpoll
  obtain ⟨t1, h1⟩ := arrivesCrc_clear hs irq
  obtain ⟨k1, hs1⟩ := h1.place
  have hready1 := hready.of_steady h1.steady
  obtain ⟨t2, h2⟩ := arrivesCrc_payload hs1 (by rw [hready1.length]; exact op.crcPayload_le.trans (by decide)) lvl
  rw [hready1.length, hready1.bytes, payload_of_besideOp (besideOp_of_besideRun (besideRun_of_steady h1.steady)),
    cfg_of_steady h1.steady] at h2
  have h12 := h1.trans h2
  obtain ⟨k2, hs2⟩ := h12.place
  obtain ⟨t3, h3, hcnt⟩ := arrivesCrc_start hs2
  rw [cfg_of_steady h12.steady] at h3 hcnt
  have h13 := h12.trans h3
  obtain ⟨k3, hs3⟩ := h13.place
  have hc3 := cfg_of_steady h13.steady
  obtain ⟨t4, h4⟩ := arrivesCrc_poll quiet (last := last) hs3 (hc3 ▸ hquiet) (hcnt ▸ hbudget) (by rw [hcnt, hc3]; exact hlast)
  rw [hc3] at h4
  have h14 := h13.trans h4
  obtain ⟨k4, hs4⟩ := h14.place
  obtain ⟨t, hresult, hseq, hbeside, hcrc, hclosed⟩ := plays_crcResult hs4 (hready.of_steady h14.steady) hc lo hi
  rw [cfg_of_steady h14.steady] at hresult
  refine ⟨t, k4 + 2, ?_, hseq, hbeside.trans (besideOp_of_besideRun (besideRun_of_steady h14.steady)), hcrc, hclosed⟩
  simpa only [crcTrace, List.append_assoc] using h14.plays.trans hresult

end

end Sys2Proof.Machine
end

section
/-! PROOF. The card operations end to end, each over the traces of its subroutines (R180 to R193, R206 to R213, R220,
R229, R268). -/

namespace Sys2Proof.Machine

/-! ## A closed frame and its exchange -/

section
variable {op : Op} {k : Nat} {s : State}

/-- What the closed frame is, where its CRC bytes are known (R270). -/
theorem FrameClosed.frame (h : FrameClosed op s) (hc : op.crcPayload ≠ 0) {lo hi : Byte} (hcrc : s.crc = #v[lo, hi]) :
    s.txLen.toNat ≤ 64 ∧ firstBytes s.txBuf s.txLen.toNat = op.payload s ++ [lo, hi] := by
  obtain ⟨hlen, hframe⟩ := h hc
  have hle := op.frameLength_le
  rw [hlen, hframe, hcrc]
  exact ⟨by omega, rfl⟩

/-- Payload, CRC and exchange of an operation that asks for a CRC, where the exchange succeeds. -/
theorem plays_crcTransceive (hs : s.seq = .run op k (.crc .clearRead)) (hready : PayloadReady op s)
    (hc : op.crcPayload ≠ 0) (hop : op.runs = .transceive) {quiet1 quiet rx : List Byte} {last1 last err lvl : Byte}
    (hcrcPoll : CrcPollLeaves s.cfg quiet1 last1) (hex : ExchangeSucceeds s.cfg quiet last err lvl rx)
    (irq1 lvl1 lo hi irq lvl0 framing framing' control : Byte) :
    ∃ (w : State) (k' : Nat), Plays s (crcTrace s.cfg (op.payload s) irq1 lvl1 (quiet1 ++ [last1]) lo hi ++
        startTrace s.cfg .transceive (op.payload s ++ [lo, hi]) irq lvl0 framing ++
        pollTrace s.cfg (quiet ++ [last]) ++ outcomeTrace s.cfg framing' err ++ responseTrace s.cfg lvl control rx)
        (w.endRun op k') ∧
      w.besideOp = s.besideOp ∧ w.crc = #v[lo, hi] ∧ Received w rx control := by
  obtain ⟨t, k1, hcrc, hs1, hbeside, hbytes, hclosed⟩ := plays_crc hs hready hc hcrcPoll irq1 lvl1 lo hi
  have hcfg := cfg_of_besideOp hbeside
  obtain ⟨hlen, hframe⟩ := hclosed.frame hc hbytes
  obtain ⟨w, k2, hplays, hbeside', hreceived⟩ := plays_transceive hs1 hop hlen (hcfg ▸ hex) irq lvl0 framing framing' control
  rw [hframe, payload_of_besideOp hbeside, hcfg] at hplays
  refine ⟨w, k2, ?_, (besideOp_of_besideRun hbeside').trans hbeside,
    (frame_of_besideRun hbeside').2.2.trans hbytes, hreceived⟩
  simpa only [List.append_assoc] using hcrc.trans hplays

/-- The framing write and the exchange of an operation that starts so, where the exchange succeeds. -/
theorem plays_framedTransceive (hs : s.seq = .run op k .framing) (hf : op.frames = true) (hop : op.runs = .transceive)
    {quiet rx : List Byte} {last err lvl : Byte} (hex : ExchangeSucceeds s.cfg quiet last err lvl rx)
    (irq lvl0 framing framing' control : Byte) :
    ∃ (w : State) (k' : Nat), Plays s (.write s.cfg.reg.bitFraming op.framing ::
        (startTrace s.cfg .transceive (op.framedFrame s.cfg) irq lvl0 framing ++
          pollTrace s.cfg (quiet ++ [last]) ++ outcomeTrace s.cfg framing' err ++ responseTrace s.cfg lvl control rx))
        (w.endRun op k') ∧
      w.besideOp = s.besideOp ∧ Received w rx control := by
  obtain ⟨t, hframing, hs1, hbeside, hlen, hframe⟩ := plays_framing hs hf
  have hcfg := cfg_of_besideOp hbeside
  obtain ⟨w, k2, hplays, hbeside', hreceived⟩ := plays_transceive hs1 hop hlen (hcfg ▸ hex) irq lvl0 framing framing' control
  rw [hframe, hcfg] at hplays
  exact ⟨w, k2, hframing.trans hplays, (besideOp_of_besideRun hbeside').trans hbeside, hreceived⟩

end

/-! ## What was received -/

section
variable {s : State} {rx : List Byte} {control : Byte}

theorem Received.toNat_length (h : Received s rx control) : s.rxLen.toNat = rx.length := by
  obtain ⟨-, h64⟩ := h.range
  rw [h.length, BitVec.toNat_ofNat]
  omega

theorem Received.toNat_bits (h : Received s rx control) (hc : s.cfg.Wf) :
    s.rxBits.toNat = bitCount rx.length (lastBits s.cfg control) := by
  obtain ⟨h1, h64⟩ := h.range
  obtain ⟨-, hhi⟩ := bitCount_bounds h1 (lastBits_le hc control)
  rw [h.bits, BitVec.toNat_ofNat]
  exact Nat.mod_eq_of_lt (by omega)

theorem Received.byteAt_eq (h : Received s rx control) {j : Nat} (hj : j < rx.length) :
    byteAt s.rxBuf j = rx.getD j 0 := by
  obtain ⟨-, h64⟩ := h.range
  have hbytes := congrArg (·.getD j 0) h.bytes
  rw [firstBytes_eq _ _ h64] at hbytes
  simpa [List.getD_eq_getElem?_getD, hj] using hbytes

/-- The start of the buffer is the start of the response. -/
theorem Received.firstBytes_eq_take (h : Received s rx control) {n : Nat} (hn : n ≤ rx.length) :
    firstBytes s.rxBuf n = rx.take n := by
  have hbytes := congrArg (List.take n) h.bytes
  rwa [firstBytes, List.take_take, Nat.min_eq_left hn] at hbytes

/-- Sixteen bits are two whole bytes (R182, R233). -/
theorem bitCount_eq_sixteen {len r : Nat} (h : 1 ≤ len) (hr : r ≤ 7) : bitCount len r = 16 ↔ len = 2 ∧ r = 0 := by
  unfold bitCount
  split <;> omega

theorem Received.sixteen_iff (h : Received s rx control) (hc : s.cfg.Wf) :
    s.rxBits = 16 ↔ rx.length = 2 ∧ lastBits s.cfg control = 0 := by
  rw [← bitCount_eq_sixteen h.range.1 (lastBits_le hc control), ← h.toNat_bits hc, ← BitVec.toNat_inj]
  rfl

/-- The identity check on the buffer is the check on the response (R189). -/
theorem Received.validIdentity_iff (h : Received s rx control) :
    ValidIdentity s ↔
      rx.length = 5 ∧ rx.getD 4 0 = rx.getD 0 0 ^^^ rx.getD 1 0 ^^^ rx.getD 2 0 ^^^ rx.getD 3 0 := by
  have hfive : s.rxLen = 5 ↔ rx.length = 5 := by
    rw [← h.toNat_length, ← BitVec.toNat_inj]
    rfl
  rw [ValidIdentity, hfive]
  refine and_congr_right fun hlen => ?_
  rw [h.byteAt_eq (by omega), h.byteAt_eq (by omega), h.byteAt_eq (by omega), h.byteAt_eq (by omega),
    h.byteAt_eq (by omega)]

/-- The acknowledgment check on the buffer is the check on the response (R211). -/
theorem Received.ackPasses_iff (h : Received s rx control) (hc : s.cfg.Wf) :
    ackPasses s.cfg s.rxBits s.rxBuf = true ↔ (s.cfg.ackCheck = true → Acknowledged s.cfg rx control) := by
  have hbits : s.rxBits = 4 ↔ bitCount rx.length (lastBits s.cfg control) = 4 := by
    rw [← h.toNat_bits hc, ← BitVec.toNat_inj]
    rfl
  rw [Acknowledged, ← hbits, ← h.byteAt_eq h.range.1]
  cases ha : s.cfg.ackCheck <;> simp [ackPasses, ha]

theorem Received.phaseStatus_ok_iff (h : Received s rx control) (hc : s.cfg.Wf) :
    s.phaseStatus = .ok ↔ (s.cfg.ackCheck = true → Acknowledged s.cfg rx control) := by
  rw [Machine.phaseStatus_ok_iff, h.ackPasses_iff hc, and_iff_right h.status]

/-- Where it fails the phase is a ProtocolError (R211). -/
theorem Received.phaseStatus_failed (h : Received s rx control) (hne : s.phaseStatus ≠ .ok) :
    s.phaseStatus = .protocolError := by
  obtain ⟨-, -, hok⟩ | ⟨-, -, hp⟩ | ⟨hst, -⟩ := phaseStatus_cases s
  · exact absurd hok hne
  · exact hp
  · exact absurd h.status hst

end

/-! ## SCAN -/

/-- Settles O52: the framing write, then an exchange whose bits decide. -/
theorem scanReturnsTheAnswerTheBusDelivers : Obligations.ScanReturnsTheAnswerTheBusDelivers := by
  intro s irq lvl0 f0 last f1 err lvl ctl quiet rx as rest ha hc hpoll herr htag hrx es hg htape
  obtain ⟨w, k, hplays, hbeside, hreceived⟩ := plays_framedTransceive (s := startScan s) (op := .scan) (k := 0) rfl rfl rfl
    ⟨hpoll, herr, htag, hrx⟩ irq lvl0 f0 f1 ctl
  have hcfg : w.cfg = s.cfg := (cfg_of_besideOp hbeside).trans rfl
  have hbus : w.busFault = false := (busFault_of_besideOp hbeside).trans ha.2
  have hbits := hreceived.sixteen_iff (hcfg ▸ hc)
  rw [hcfg] at hbits
  obtain ⟨⟨-, h16⟩, hend⟩ | ⟨hne, hend⟩ := endScan_cases w <;> rw [State.endRun, hend] at hplays
  · have htwo := hbits.1 h16
    refine ⟨_, _, exec_of_wf ha hc .scan, hplays.resume hg htape rfl, rfl, hbus, hplays.trace, rfl, ?_⟩
    rw [if_pos htwo, ← hreceived.bytes, htwo.1]
    rfl
  · refine ⟨_, _, exec_of_wf ha hc .scan, hplays.resume hg htape rfl, rfl, hbus, hplays.trace, rfl, ?_⟩
    rw [if_neg fun htwo => hne ⟨hreceived.status, hbits.2 htwo⟩]
    rfl

/-- Settles O51: the framing write, then an exchange whose poll exhausts its budget. -/
theorem scanReportsProtocolErrorAfterExactlyTheBudget : Obligations.ScanReportsProtocolErrorAfterExactlyTheBudget := by
  intro s irq lvl0 f0 last quiet as rest ha hb hpoll es hg htape
  have hexec : exec .scan s = .next (startScan s) := by
    rw [exec_eq_launch, show refusalOf s.cfg .scan = none from pollRefusal_none hb]
    exact launch_accepting ha _
  obtain ⟨t, hframing, hs1, hbeside, hlen, hframe⟩ := plays_framing (s := startScan s) (op := .scan) (k := 0) rfl rfl
  have hcfg : t.cfg = s.cfg := (cfg_of_besideOp hbeside).trans rfl
  obtain ⟨w, k, hplays, -⟩ := plays_exhausted hs1 hlen (hcfg ▸ hpoll) irq lvl0 f0 last
  rw [hframe, hcfg] at hplays
  have hend : (w.noData .protocolError).endRun .scan k =
      (w.noData .protocolError).finishFailed .protocolError none w.ghost.failed := rfl
  rw [hend] at hplays
  have hall := hframing.trans hplays
  refine ⟨_, _, hexec, hall.resume hg htape rfl, rfl, rfl, hall.trace, ?_, rfl⟩
  rw [← hpoll.2]
  simp [es, startTrace, armTrace, clearBitsTrace, setBitsTrace, pollTrace]
  omega

/-! ## IDENTIFY -/

/-- Settles O53: the framing write, then an exchange whose check byte decides. -/
theorem identifyReturnsTheIdentityTheBusDelivers : Obligations.IdentifyReturnsTheIdentityTheBusDelivers := by
  intro s irq lvl0 f0 last f1 err lvl ctl quiet rx as rest ha hc hpoll herr htag hrx es hg htape
  obtain ⟨w, k, hplays, hbeside, hreceived⟩ := plays_framedTransceive (s := startIdentify s) (op := .identify) (k := 0)
    rfl rfl rfl ⟨hpoll, herr, htag, hrx⟩ irq lvl0 f0 f1 ctl
  have hbus : w.busFault = false := (busFault_of_besideOp hbeside).trans ha.2
  obtain ⟨⟨-, hvalid⟩, hend⟩ | ⟨⟨-, hvalid⟩, hend⟩ | ⟨hst, -⟩ := endIdentify_cases w
  · rw [State.endRun, hend] at hplays
    have hfive := hreceived.validIdentity_iff.1 hvalid
    refine ⟨_, _, exec_of_wf ha hc .identify, hplays.resume hg htape rfl, rfl, hbus, hplays.trace, rfl, ?_⟩
    have hdata := hreceived.bytes
    rw [hfive.1] at hdata
    rw [if_pos hfive, ← hdata]
    rfl
  · rw [State.endRun, hend] at hplays
    refine ⟨_, _, exec_of_wf ha hc .identify, hplays.resume hg htape rfl, rfl, hbus, hplays.trace, rfl, ?_⟩
    rw [if_neg fun hfive => hvalid (hreceived.validIdentity_iff.2 hfive)]
    rfl
  · exact absurd hreceived.status hst

/-! ## SELECT -/

/-- Settles O54: the payload, its CRC, and an exchange whose response is returned as it is. -/
theorem selectReturnsTheResponseTheBusDelivers : Obligations.SelectReturnsTheResponseTheBusDelivers := by
  intro sn s irq1 lvl1 last1 lo hi irq lvl0 f0 last f1 err lvl ctl quiet1 quiet rx as rest ha hc hcrcPoll hpoll herr htag
    hrx payload es hg htape
  obtain ⟨w, k, hplays, hbeside, hcrc, hreceived⟩ := plays_crcTransceive (s := startSelect sn s) (op := .select) (k := 0)
    rfl (startOf_payloadReady (.select sn) ha.1 rfl) (by decide) rfl hcrcPoll ⟨hpoll, herr, htag, hrx⟩
    irq1 lvl1 lo hi irq lvl0 f0 f1 ctl
  have hcfg : w.cfg = s.cfg := (cfg_of_besideOp hbeside).trans rfl
  have hbus : w.busFault = false := (busFault_of_besideOp hbeside).trans ha.2
  obtain ⟨-, -, -, hsn, -⟩ := latches_of_besideOp hbeside
  obtain ⟨-, hend⟩ | ⟨hst, -⟩ := endSelect_cases w
  · rw [State.endRun, hend, hreceived.toNat_length, hreceived.bytes, hreceived.bits, hcfg] at hplays
    exact ⟨_, _, exec_of_wf ha hc (.select sn), hplays.resume hg htape rfl, rfl, hbus, hplays.trace, rfl, hcrc, hsn, rfl⟩
  · exact absurd hreceived.status hst

/-! ## READ -/

/-- Settles O56: the payload, its CRC, and an exchange whose length decides. -/
theorem readReturnsTheBlockTheBusDelivers : Obligations.ReadReturnsTheBlockTheBusDelivers := by
  intro b s irq1 lvl1 last1 lo hi irq lvl0 f0 last f1 err lvl ctl quiet1 quiet rx as rest ha hc hcrcPoll hpoll herr htag
    hrx es hg htape
  obtain ⟨w, k, hplays, hbeside, hcrc, hreceived⟩ := plays_crcTransceive (s := startRead b s) (op := .read) (k := 0)
    rfl (startOf_payloadReady (.read b) ha.1 rfl) (by decide) rfl hcrcPoll ⟨hpoll, herr, htag, hrx⟩
    irq1 lvl1 lo hi irq lvl0 f0 f1 ctl
  have hbus : w.busFault = false := (busFault_of_besideOp hbeside).trans ha.2
  obtain ⟨hblk, -⟩ := latches_of_besideOp hbeside
  have hlen := hreceived.toNat_length
  obtain ⟨⟨-, h16⟩, hend⟩ | ⟨⟨-, h16⟩, hend⟩ | ⟨hst, -⟩ := endRead_cases w
  · have hlong : 16 ≤ rx.length := hlen ▸ h16
    rw [State.endRun, hend, hreceived.firstBytes_eq_take hlong] at hplays
    exact ⟨_, _, exec_of_wf ha hc (.read b), hplays.resume hg htape rfl, rfl, hbus, hplays.trace, rfl, hcrc, hblk,
      fun _ => ⟨rfl, rfl, hlen⟩, fun hshort => absurd hlong (by omega)⟩
  · have hshort : rx.length < 16 := hlen ▸ h16
    rw [State.endRun, hend] at hplays
    exact ⟨_, _, exec_of_wf ha hc (.read b), hplays.resume hg htape rfl, rfl, hbus, hplays.trace, rfl, hcrc, hblk,
      fun hlong => absurd hlong (by omega), fun _ => ⟨rfl, rfl⟩⟩
  · exact absurd hreceived.status hst

/-! ## WRITE -/

section
variable {w : State}

/-- A first phase that ends Ok leads to the CRC of the data (R212, R213). -/
theorem endRun_phaseOne_ok (h : w.phaseStatus = .ok) (k : Nat) :
    (w.endRun (.write .one) k).seq = .run (.write .two) k (.crc .clearRead) ∧
    PayloadReady (.write .two) (w.endRun (.write .one) k) ∧ (w.endRun (.write .one) k).besideOp = w.besideOp := by
  obtain ⟨-, hend⟩ | ⟨hne, -⟩ := endWrite_one_cases w k
  · rw [State.endRun, hend]
    have hready : PayloadReady (.write .two) (w.stage w.data.toList) := payloadReady_stage rfl
    exact ⟨rfl, ⟨hready.length, hready.bytes⟩, rfl⟩
  · exact absurd h hne

/-- One that ends with another status ends WRITE with it (R213). -/
theorem endRun_phaseOne_failed {st : Status} (h : w.phaseStatus = st) (hne : st ≠ .ok) (k : Nat) :
    w.endRun (.write .one) k = w.finishFailed st none w.ghost.failed := by
  subst h
  obtain ⟨hok, -⟩ | ⟨-, hend⟩ := endWrite_one_cases w k
  · exact absurd hok hne
  · exact hend

/-- So does an exchange without data (R229, R231, R232). -/
theorem endRun_phaseOne_noData {st : Status} (hne : st ≠ .ok) (k : Nat) :
    (w.noData st).endRun (.write .one) k = (w.noData st).finishFailed st none w.ghost.failed := by
  obtain ⟨hst, -⟩ | ⟨hst, -⟩ | ⟨-, hphase⟩ := phaseStatus_cases (w.noData st)
  · exact absurd hst hne
  · exact absurd hst hne
  · exact endRun_phaseOne_failed hphase hne k

end

/-- Settles O57: phase 1 ends Ok and leads to the data, and phase 2 ends with its acknowledgment. -/
theorem writeSendsTheCommandThenTheData : Obligations.WriteSendsTheCommandThenTheData := by
  intro b d s irq1 lvl1 last1 lo hi irq lvl0 f0 last f1 err lvl ctl quiet1 quiet rx irq1' lvl1' last1' lo' hi' irq' lvl0'
    f0' last' f1' err' lvl' ctl' quiet1' quiet' rx' as rest ha hc hcrcPoll hpoll herr htag hrx hack hcrcPoll' hpoll' herr'
    htag' hrx' es hg htape
  obtain ⟨w, k, hone, hbeside, -, hreceived⟩ := plays_crcTransceive (s := startWrite b d s) (op := .write .one) (k := 0)
    rfl (startOf_payloadReady (.write b d) ha.1 rfl) (by decide) rfl hcrcPoll
    ⟨hpoll, herr, htag, hrx⟩ irq1 lvl1 lo hi irq lvl0 f0 f1 ctl
  have hcfg : w.cfg = s.cfg := (cfg_of_besideOp hbeside).trans rfl
  obtain ⟨hs2, hready, hb2⟩ := endRun_phaseOne_ok ((hreceived.phaseStatus_ok_iff (hcfg ▸ hc)).2 (hcfg ▸ hack)) k
  have hbeside2 := hb2.trans hbeside
  have hcfg2 : (w.endRun (.write .one) k).cfg = s.cfg := (cfg_of_besideOp hbeside2).trans rfl
  have hpayload : Op.payload (w.endRun (.write .one) k) (.write .two) = d.toList :=
    (payload_of_besideOp hbeside2 (.write .two)).trans rfl
  have hex : ExchangeSucceeds s.cfg quiet' last' err' lvl' rx' := ⟨hpoll', herr', htag', hrx'⟩
  obtain ⟨w', k', htwo, hbeside', hcrc, hreceived'⟩ := plays_crcTransceive hs2 hready (by decide) rfl
    (hcfg2 ▸ hcrcPoll') (hcfg2 ▸ hex) irq1' lvl1' lo' hi' irq' lvl0' f0' f1' ctl'
  rw [hcfg2, hpayload] at htwo
  have hheld := hbeside'.trans hbeside2
  have hcfg' : w'.cfg = s.cfg := (cfg_of_besideOp hheld).trans rfl
  have hbus : w'.busFault = false := (busFault_of_besideOp hheld).trans ha.2
  obtain ⟨hblk, -, -, -, hdata⟩ := latches_of_besideOp hheld
  have hpasses := hreceived'.phaseStatus_ok_iff (hcfg' ▸ hc)
  rw [hcfg'] at hpasses
  have hplays := hone.trans htwo
  obtain ⟨hst, hend⟩ | ⟨hst, hend⟩ := endWrite_two_cases w' k'
  · rw [State.endRun, hend] at hplays
    refine ⟨_, _, exec_of_wf ha hc (.write b d), hplays.resume hg htape rfl, rfl, hbus, ?_, hplays.trace, rfl, hcrc, hblk,
      hdata⟩
    rw [if_neg fun ⟨hcheck, hno⟩ => hno (hpasses.1 hst hcheck)]
    rfl
  · rw [State.endRun, hend, hreceived'.phaseStatus_failed hst] at hplays
    refine ⟨_, _, exec_of_wf ha hc (.write b d), hplays.resume hg htape rfl, rfl, hbus, ?_, hplays.trace, rfl, hcrc, hblk,
      hdata⟩
    rw [if_pos (Classical.not_imp.1 fun himp => hst (hpasses.2 himp))]
    rfl

/-- Settles O59: each way phase 1 fails ends WRITE in its exchange. -/
theorem writeEndsWithItsFirstPhaseWhereThatFails : Obligations.WriteEndsWithItsFirstPhaseWhereThatFails := by
  intro b d s irq1 lvl1 last1 lo hi irq lvl0 f0 last quiet1 quiet as rest ha hc hcrcPoll htape es
  have hexec := exec_of_wf ha hc (.write b d)
  have hready : PayloadReady (.write .one) (startWrite b d s) :=
    startOf_payloadReady (.write b d) ha.1 rfl
  obtain ⟨t, k, hcrc, hs, hbeside, hbytes, hclosed⟩ := plays_crc rfl hready (by decide) hcrcPoll irq1 lvl1 lo hi
  have hcfg : t.cfg = s.cfg := (cfg_of_besideOp hbeside).trans rfl
  obtain ⟨hlen, hframe⟩ := hclosed.frame (by decide) hbytes
  change Plays _ (crcTrace s.cfg [s.cfg.picc.write, b] irq1 lvl1 (quiet1 ++ [last1]) lo hi) t at hcrc
  replace hframe : firstBytes t.txBuf t.txLen.toNat = [s.cfg.picc.write, b, lo, hi] := by
    rw [hframe, payload_of_besideOp hbeside]
    rfl
  refine ⟨fun f1 err hpoll hfail hg => ?_, fun hpoll hg => ?_,
    fun f1 err lvl ctl rx hcheck hpoll herr htag hrx hno hg => ?_⟩
  · obtain ⟨u, k', hplays, hsteady, rfl, rfl⟩ := plays_untilError hs hlen (hcfg ▸ hpoll) irq lvl0 f0 f1 err
    have hcu : u.cfg = s.cfg := (cfg_of_steady hsteady).trans hcfg
    rw [hframe, hcfg, afterError_failed (hcu ▸ hfail), hcu, endRun_phaseOne_noData (by split <;> decide)] at hplays
    have hall := hcrc.trans hplays
    rw [← List.append_assoc, ← List.append_assoc] at hall
    exact ⟨_, _, hexec, hall.resume hg htape rfl, rfl, rfl, rfl, hall.trace⟩
  · obtain ⟨w, k', hplays, -⟩ := plays_exhausted hs hlen (hcfg ▸ hpoll) irq lvl0 f0 last
    rw [hframe, hcfg, endRun_phaseOne_noData (by decide)] at hplays
    have hall := hcrc.trans hplays
    rw [← List.append_assoc] at hall
    exact ⟨_, _, hexec, hall.resume hg htape rfl, rfl, rfl, rfl, hall.trace⟩
  · have hex : ExchangeSucceeds s.cfg quiet last err lvl rx := ⟨hpoll, herr, htag, hrx⟩
    obtain ⟨w, k', hplays, hbeside', hreceived⟩ := plays_transceive hs rfl hlen (hcfg ▸ hex) irq lvl0 f0 f1 ctl
    have hcw : w.cfg = s.cfg := (cfg_of_besideOp (besideOp_of_besideRun hbeside')).trans hcfg
    have hnotOk : w.phaseStatus ≠ .ok := fun hok => hno (by
      have hack := (hreceived.phaseStatus_ok_iff (hcw ▸ hc)).1 hok
      rw [hcw] at hack
      exact hack hcheck)
    rw [hframe, hcfg, endRun_phaseOne_failed (hreceived.phaseStatus_failed hnotOk) (by decide)] at hplays
    have hall := hcrc.trans hplays
    rw [← List.append_assoc, ← List.append_assoc, ← List.append_assoc] at hall
    exact ⟨_, _, hexec, hall.resume hg htape rfl, rfl, rfl, rfl, hall.trace⟩

end Sys2Proof.Machine
end

section
/-! PROOF. DEAUTHENTICATE: one use of `CLEARBITS` on the status register (R200, R201). -/

namespace Sys2Proof.Machine

/-- A run whose second transaction is its last takes two answers and leaves the rest. -/
theorem resume_pair {s : State} {a b : Answer} {rest : List Answer} (ha : s.answers = a :: b :: rest)
    (hrun : s.running = true) (hrun' : (tick s a).running = true) (hend : (tick (tick s a) b).running = false) :
    s.resume = (tick (tick s a) b).withTape rest := by
  rw [State.resume, ha, drive_cons hrun, drive_cons hrun', drive_rest hend]
  rfl

/-- The state at the write of DEAUTHENTICATE, its read having returned `v`. -/
def State.deauthWriting (s : State) (v : Byte) : State :=
  { (startDeauthenticate s).record (.read s.cfg.reg.status2) v with tmp := v }.goto .deauthenticate 1 .deauthWrite

theorem tick_startDeauthenticate (s : State) (v : Byte) :
    tick (startDeauthenticate s) (.done v) = s.deauthWriting v :=
  (deauth_helperUse .deauthenticate).tick_done rfl v

/-- Settles O32: the read takes the register to `E.TMP`, the write clears the bit, and a failure of either is BusError. -/
theorem deauthenticateClearsTheCryptoBit : Obligations.DeauthenticateClearsTheCryptoBit := by
  intro s v rest ha
  have hexec : exec .deauthenticate s = .next (startDeauthenticate s) := launch_accepting ha _
  refine ⟨fun w htape => ⟨_, hexec, ?_⟩, fun htape => ⟨_, _, hexec, rfl, ?_⟩, fun htape => ⟨_, _, hexec, rfl, ?_⟩⟩
  · have hdone : tick (tick (startDeauthenticate s) (.done v)) (.done w) =
        ((s.deauthWriting v).record (.write s.cfg.reg.status2 (v &&& ~~~s.cfg.bit.crypto1On)) w).finishUnit := by
      rw [tick_startDeauthenticate]
      exact tick_done (s := s.deauthWriting v) rfl w
    rw [resume_pair (s := startDeauthenticate s) htape rfl (by rw [tick_startDeauthenticate]; rfl) (by rw [hdone]; rfl),
      hdone]
    change { s.forgetResult with
      seq := .idle, tmp := v, reply := .completed, ghost := .ready false, answers := rest,
      events := .write s.cfg.reg.status2 (v &&& ~~~s.cfg.bit.crypto1On) :: .read s.cfg.reg.status2 v :: s.events,
      mem := s.mem.write s.cfg.reg.status2.toNat (v &&& ~~~s.cfg.bit.crypto1On) } = _
    rw [← ha.1]
    rfl
  · rw [startDeauthenticate, resume_lone_failed (r := .read s.cfg.reg.status2) rfl htape rfl]
    exact ⟨rfl, rfl, rfl, rfl, rfl⟩
  · have hfailed : tick (tick (startDeauthenticate s) (.done v)) .failed =
        (s.deauthWriting v).takeBusError (.write s.cfg.reg.status2 (v &&& ~~~s.cfg.bit.crypto1On)) := by
      rw [tick_startDeauthenticate]
      exact tick_failed (s := s.deauthWriting v) rfl
    rw [resume_pair (s := startDeauthenticate s) htape rfl (by rw [tick_startDeauthenticate]; rfl) (by rw [hfailed]; rfl),
      hfailed]
    exact ⟨rfl, rfl, rfl, rfl, rfl⟩

end Sys2Proof.Machine
end

section
/-! PROOF. The command/response sequencer from its first transaction to its verdict (R220 to R238, R240, R241): the
registers it leaves, the index it hands on, and the lengths of its traces. -/

namespace Sys2Proof.Machine

/-! ## The index handed on (R26) -/

/-- The index of a following transaction counts those recorded since the history held `n` entries and the index was `k`. -/
def IndexCounts (n k : Nat) (s : State) : Prop := ∀ op j p, s.seq = .run op j p → n + j = k + s.events.length

theorem IndexCounts.tick {n k : Nat} {s : State} (h : IndexCounts n k s) (hrun : s.running = true) (a : Answer) :
    IndexCounts n k (tick s a) := by
  obtain ⟨op, j, p, hs⟩ := (running_iff s).1 hrun
  have hj := h op j p hs
  intro op' j' p' hs'
  cases a with
  | done v =>
    rw [tick_events hs, List.length_cons]
    rw [tick_done hs] at hs'
    have hnext := advance_atIndex _ _ _ _ _ op' j' p' hs'
    omega
  | failed =>
    rw [tick_failed hs, State.releaseKey_seq] at hs'
    cases hs'

/-- A trace played leads to the index that counts it, unless the engine has come to rest. -/
theorem Plays.atIndex {s t : State} {es : List Event} {op : Op} {k : Nat} {p : Point} (h : Plays s es t)
    (hs : s.seq = .run op k p) {as : List Answer} (hg : tapeGives as es = true) : AtIndex (k + es.length) t := by
  have hstart : IndexCounts s.events.length k s := by
    intro op' j p' hs'
    have := atIndex_of_run hs op' j p' hs'
    omega
  have hend : IndexCounts s.events.length k (drive as s) :=
    drive_induction (fun u a hrun hu => hu.tick hrun a) (fun u as hu => hu) as s hstart
  rw [← List.append_nil as, h.run as [] hg, drive_nil] at hend
  intro op' j p' ht
  have hj := hend op' j p' ht
  rw [show State.events { t with answers := [] } = es.reverse ++ s.events from h.events, List.length_append,
    List.length_reverse] at hj
  omega

/-- The index given to the end of an exchange shows only where WRITE goes on with its second phase, so any that agrees with
what follows may stand for it. -/
theorem endRun_of_atIndex {s : State} {op : Op} {k j : Nat} (h : AtIndex j (s.endRun op k)) :
    s.endRun op k = s.endRun op j := by
  cases op with
  | write ph =>
    cases ph with
    | one =>
      by_cases hp : s.phaseStatus = .ok
      · have hk : k = j := h (.write .two) k (.crc .clearRead) (by simp [State.endRun, State.endWrite, hp])
        rw [hk]
      · simp [State.endRun, State.endWrite, hp]
    | two => rfl
  | _ => rfl

/-- A trace played to the end of `RunCommand`: the run over its tape, the index handed on and the history. -/
theorem Plays.drive_endRun {s w : State} {es : List Event} {op : Op} {k k' : Nat} {p : Point}
    (h : Plays s es (w.endRun op k')) (hs : s.seq = .run op k p) {as : List Answer} (hg : tapeGives as es = true)
    (rest : List Answer) :
    drive (as ++ rest) s = drive rest (w.endRun op (k + es.length)) ∧ w.trace = s.trace ++ es := by
  obtain ⟨-, -, -, -, hevents, -, -⟩ := endRun_boundary w op k'
  refine ⟨?_, ?_⟩
  · rw [h.run as rest hg, endRun_of_atIndex (h.atIndex hs hg)]
  · rw [← h.trace, State.trace, State.trace, hevents]

/-! ## The poll, its counter and its last byte (R228 to R230) -/

section
variable {op : Op} {k : Nat} {s : State}

/-- Step 1 and the polls that show no terminating bit, each counted (R221 to R228). -/
theorem arrives_quietPolls (hs : s.seq = .run op k (.run .enable)) (hlen : s.txLen.toNat ≤ 64) {quiet : List Byte}
    (hquiet : ∀ v ∈ quiet, pollSees s.cfg op.runs v = false) (hcnt : quiet.length < s.cfg.transceiveBudget.toNat)
    (irq lvl framing : Byte) :
    ∃ t, Arrives op s (startTrace s.cfg op.runs (firstBytes s.txBuf s.txLen.toNat) irq lvl framing ++
        pollTrace s.cfg quiet) .poll t ∧
      t.cnt.toNat + quiet.length = s.cfg.transceiveBudget.toNat := by
  obtain ⟨t, hstart, hfull⟩ := arrives_startTrace hs hlen irq lvl framing
  obtain ⟨k1, hs1⟩ := hstart.place
  have hc := cfg_of_steady hstart.steady
  obtain ⟨u, hpolled, hleft⟩ := arrives_quiet quiet hs1 (hc ▸ hquiet) (hfull ▸ hcnt)
  exact ⟨u, hstart.trans (hc ▸ hpolled), hfull ▸ hleft⟩

theorem pollTrace_concat (c : Config) (quiet : List Byte) (last : Byte) :
    pollTrace c (quiet ++ [last]) = pollTrace c quiet ++ [.read c.reg.comIrq last] := by
  simp [pollTrace]

/-- Step 3 up to the verdict: the framing byte read stands in `E.TMP`, the error byte in `E.ERRV`, and the rest of the
registers as the poll left them (R230, R231). -/
theorem plays_outcomeRead (hs : s.seq = .run op k (.run .clearRead)) (framing err : Byte) :
    ∃ u k', Plays s (outcomeTrace s.cfg framing err) (afterError u op k') ∧ u.steady = s.steady ∧ u.irqV = s.irqV ∧
      u.errV = err ∧ u.tmp = framing ∧ u.cnt = s.cnt := by
  have hread := arrives_read (fun u => { u with tmp := framing }) (q' := .clearWrite) hs rfl rfl fun _ => rfl
  obtain ⟨k1, hs1⟩ := hread.place
  have hwrite := arrives_write id (q' := .error) hs1 rfl (fun _ _ => rfl) fun _ => rfl
  obtain ⟨k2, hs2⟩ := hwrite.place
  have herr := plays_read hs2 (a := s.cfg.reg.error) rfl err
  exact ⟨_, _, (hread.plays.trans hwrite.plays).trans herr, rfl, rfl, rfl, rfl, rfl⟩

/-- `RunCommand` up to its verdict, where the poll succeeds: what stands in the registers by then (R221 to R231). -/
theorem plays_untilVerdict (hs : s.seq = .run op k (.run .enable)) (hlen : s.txLen.toNat ≤ 64) {quiet : List Byte}
    {last : Byte} (hpoll : PollSucceeds s.cfg op.runs quiet last) (irq lvl framing framing' err : Byte) :
    ∃ u k', Plays s (startTrace s.cfg op.runs (firstBytes s.txBuf s.txLen.toNat) irq lvl framing ++
        pollTrace s.cfg (quiet ++ [last]) ++ outcomeTrace s.cfg framing' err) (afterError u op k') ∧
      u.steady = s.steady ∧ u.irqV = last ∧ u.errV = err ∧ u.tmp = framing' ∧
      u.cnt.toNat + (quiet.length + 1) = s.cfg.transceiveBudget.toNat := by
  obtain ⟨hquiet, hlast, hbudget⟩ := hpoll
  obtain ⟨t1, hquietly, hleft⟩ := arrives_quietPolls hs hlen hquiet (by omega) irq lvl framing
  obtain ⟨k1, hs1⟩ := hquietly.place
  have hc := cfg_of_steady hquietly.steady
  obtain ⟨t2, hpolled, hirq, hcount⟩ := arrives_pollRead hs1 (by omega) last
  rw [hc, if_pos hlast] at hpolled
  have hupto := hquietly.trans hpolled
  obtain ⟨k2, hs2⟩ := hupto.place
  obtain ⟨u, k', hout, hsteady, hirq', herr, htmp, hcnt⟩ := plays_outcomeRead hs2 framing' err
  rw [cfg_of_steady hupto.steady] at hout
  refine ⟨u, k', ?_, hsteady.trans hupto.steady, hirq'.trans hirq, herr, htmp, by rw [hcnt]; omega⟩
  rw [pollTrace_concat, ← List.append_assoc (startTrace _ _ _ _ _ _)]
  exact hupto.plays.trans hout

/-- The poll read that takes the counter to 0 hands over at once, whatever it shows (R229). -/
theorem plays_counterOut (hs : s.seq = .run op k (.run .poll)) (hcnt : s.cnt = 1) (last : Byte) :
    ∃ (w : State) (k' : Nat), Plays s [.read s.cfg.reg.comIrq last] ((w.noData .protocolError).endRun op k') ∧
      w.cnt = 0 ∧ w.irqV = last := by
  have hzero : s.cnt - 1 = 0 := by rw [hcnt]; rfl
  have hread := plays_read hs (a := s.cfg.reg.comIrq) rfl last
  have hend : advance (s.record (.read s.cfg.reg.comIrq) last) op (k + 1) last (.run .poll) =
      (State.noData { s.record (.read s.cfg.reg.comIrq) last with irqV := last, cnt := s.cnt - 1 }
        .protocolError).endRun op (k + 1) := if_pos hzero
  rw [hend] at hread
  exact ⟨_, _, hread, hzero, rfl⟩

/-! ## The response (R233, R234) -/

/-- The state without its place and the model's records. -/
def State.registers (s : State) : State := { s with seq := .idle, answers := [], events := [], mem := [] }

/-- The drain from byte `i` on puts its bytes in `E.RXBUF` and the length in `E.RXLEN`, and changes no other register
(R234, R147). -/
theorem plays_drainRegisters (rx : List Byte) {s : State} {len i k : Nat}
    (hs : s.seq = .run op k (.run (.drain len i))) (hne : rx ≠ []) (hlen : i + rx.length = len) :
    ∃ (w : State) (k' : Nat), Plays s (rx.map (.read s.cfg.reg.fifoData)) (w.endRun op k') ∧
      w.registers = State.registers { s with rxBuf := putBytes s.rxBuf i rx, rxLen := BitVec.ofNat 7 len } := by
  induction rx generalizing s i k with
  | nil => exact absurd rfl hne
  | cons v rx ih =>
    have hread := plays_read hs (a := s.cfg.reg.fifoData) rfl v
    simp only [List.length_cons] at hlen
    cases rx with
    | nil =>
      have hlast (u : State) : advance u op (k + 1) v (.run (.drain len i)) =
          State.endRun { u with rxBuf := putBytes u.rxBuf i [v], rxLen := BitVec.ofNat 7 len } op (k + 1) :=
        if_neg (by simp at hlen; omega)
      rw [hlast] at hread
      exact ⟨_, _, hread, rfl⟩
    | cons v' rx =>
      have hnext (u : State) : advance u op (k + 1) v (.run (.drain len i)) =
          State.goto { u with rxBuf := putBytes u.rxBuf i [v] } op (k + 1) (.run (.drain len (i + 1))) :=
        if_pos (by simp at hlen; omega)
      rw [hnext] at hread
      obtain ⟨w, k', hplays, hregisters⟩ := ih (i := i + 1)
        (s := State.goto { s.record (.read s.cfg.reg.fifoData) v with rxBuf := putBytes s.rxBuf i [v] } op (k + 1)
          (.run (.drain len (i + 1)))) rfl (List.cons_ne_nil _ _) (by omega)
      exact ⟨w, k', hread.trans hplays, hregisters⟩

/-- `E.RXBUF`, `E.RXLEN` and `E.RXBITS` hold a response with the clamped level as its length, and its bit count; every
other register is as it was (R233, R234). -/
def State.withResponse (s : State) (lvl control : Byte) (rx : List Byte) : State :=
  { s with
    rxBuf  := putBytes s.rxBuf 0 rx
    rxLen  := BitVec.ofNat 7 (clampLevel lvl)
    rxBits := BitVec.ofNat 10 (bitCount (clampLevel lvl) (lastBits s.cfg control)) }

/-- Step 4 whole: level, control and drain leave the response and its bit count (R233, R234). -/
theorem plays_responseRegisters (hs : s.seq = .run op k (.run .level)) {lvl : Byte} {rx : List Byte}
    (hrx : rx.length = clampLevel lvl) (control : Byte) :
    ∃ (w : State) (k' : Nat), Plays s (responseTrace s.cfg lvl control rx) (w.endRun op k') ∧
      w.registers = (s.withResponse lvl control rx).registers := by
  obtain ⟨hpos, -⟩ := clampLevel_bounds lvl
  have hlevel := plays_read hs (a := s.cfg.reg.fifoLevel) rfl lvl
  have hcontrol := plays_read (s := (s.record (.read s.cfg.reg.fifoLevel) lvl).goto op (k + 1) (.run (.control lvl)))
    rfl (a := s.cfg.reg.control) rfl control
  obtain ⟨w, k', hdrain, hregisters⟩ := plays_drainRegisters rx
    (s := afterControl (((s.record (.read s.cfg.reg.fifoLevel) lvl).goto op (k + 1) (.run (.control lvl))).record
      (.read s.cfg.reg.control) control) op (k + 2) lvl control)
    rfl (List.ne_nil_of_length_pos (by omega)) ((Nat.zero_add _).trans hrx)
  exact ⟨w, k', (hlevel.trans hcontrol).trans hdrain, hregisters⟩

end

/-! ## The verdicts -/

/-- Settles O33: start, polls and outcome lead to the response, whose drain hands over the result registers. -/
theorem transceiveEndsOkWithTheResponse : Obligations.TransceiveEndsOkWithTheResponse := by
  intro s op k irq lvl0 f0 last f1 err lvl ctl quiet rx as rest hs hop hlen hpoll herr htag hrx es hg
  obtain ⟨u, k1, hplays, hsteady, rfl, rfl, rfl, hcnt⟩ :=
    plays_untilVerdict hs hlen (hop ▸ hpoll) irq lvl0 f0 f1 err
  have hc := cfg_of_steady hsteady
  rw [hop, afterError_transceive hop (hc ▸ herr) (hc ▸ htag)] at hplays
  obtain ⟨w, k2, hresponse, hw⟩ := plays_responseRegisters
    (s := { u with status := .ok }.goto op k1 (.run .level)) rfl hrx ctl
  have hall := hplays.trans (es' := responseTrace s.cfg lvl ctl rx) (by rw [← hc]; exact hresponse)
  obtain ⟨hdrive, htrace⟩ := hall.drive_endRun hs hg rest
  obtain ⟨-, h64⟩ := clampLevel_bounds lvl
  have hrxLen : w.rxLen = BitVec.ofNat 7 (clampLevel lvl) := (congrArg State.rxLen hw :)
  have hrxBuf : w.rxBuf = putBytes u.rxBuf 0 rx := (congrArg State.rxBuf hw :)
  have hrxBits : w.rxBits = BitVec.ofNat 10 (bitCount (clampLevel lvl) (lastBits u.cfg ctl)) := (congrArg State.rxBits hw :)
  have hcount : w.cnt = u.cnt := (congrArg State.cnt hw :)
  obtain ⟨htxBuf, htxLen⟩ := sameTx_of_steady hsteady
  refine ⟨w, hdrive, htrace, (congrArg State.status hw :), ?_, ?_, ?_, hcount ▸ hcnt, (congrArg State.irqV hw :),
    (congrArg State.errV hw :), (congrArg State.tmp hw :), (congrArg State.txBuf hw :).trans htxBuf,
    (congrArg State.txLen hw :).trans htxLen, (congrArg State.crc hw :).trans (congrArg State.crc hsteady :)⟩
  · rw [hrxLen, BitVec.toNat_ofNat]
    omega
  · rw [hrxBuf, firstBytes_putBytes _ _ (by omega)]
  · rw [hrxBits, hc, BitVec.toNat_ofNat]

/-- Settles O34: the verdict on the error byte ends the run without data. -/
theorem mfAuthentEndsOkWithoutData : Obligations.MfAuthentEndsOkWithoutData := by
  intro s op k irq lvl0 f0 last f1 err quiet as rest hs hop hlen hpoll herr htag es hg
  obtain ⟨u, k', hplays, hsteady, rfl, rfl⟩ := plays_untilError hs hlen (hop ▸ hpoll) irq lvl0 f0 f1 err
  have hc := cfg_of_steady hsteady
  rw [hop, afterError_mfAuthent hop (hc ▸ herr) (hc ▸ htag)] at hplays
  obtain ⟨hdrive, htrace⟩ := hplays.drive_endRun hs hg rest
  obtain ⟨htxBuf, htxLen⟩ := sameTx_of_steady hsteady
  exact ⟨u.noData .ok, hdrive, htrace, rfl, rfl, rfl, (congrArg State.rxBuf hsteady :), rfl, rfl, htxBuf, htxLen,
    (congrArg State.crc hsteady :)⟩

/-- Settles O35: the counter stands at 1 before the last read, which ends the run. -/
theorem exhaustedPollEndsInProtocolError : Obligations.ExhaustedPollEndsInProtocolError := by
  intro s op k irq lvl0 f0 last quiet as rest hs hlen hpoll hop es hg
  obtain ⟨hquiet, hbudget⟩ := hpoll
  obtain ⟨t, hquietly, hleft⟩ := arrives_quietPolls hs hlen hquiet (by omega) irq lvl0 f0
  obtain ⟨k1, hs1⟩ := hquietly.place
  have hone : t.cnt = 1 := BitVec.eq_of_toNat_eq (by simp; omega)
  obtain ⟨w, k', hlast, hcnt, hirq⟩ := plays_counterOut hs1 hone last
  rw [cfg_of_steady hquietly.steady] at hlast
  have hall := hquietly.plays.trans hlast
  rw [List.append_assoc, ← pollTrace_concat] at hall
  obtain ⟨hdrive, htrace⟩ := hall.drive_endRun hs hg rest
  exact ⟨w.noData .protocolError, hdrive, htrace, rfl, rfl, rfl, hcnt, hirq⟩

/-- Settles O36: the verdict on the error byte, then on the last polled byte, ends the run without data. -/
theorem errorBitsGoBeforeNoTagError : Obligations.ErrorBitsGoBeforeNoTagError := by
  intro s op k irq lvl0 f0 last f1 err quiet as rest hs hop hlen hpoll hfail es hg
  obtain ⟨u, k', hplays, hsteady, rfl, rfl⟩ := plays_untilError hs hlen hpoll irq lvl0 f0 f1 err
  have hc := cfg_of_steady hsteady
  rw [afterError_failed (hc ▸ hfail), hc] at hplays
  obtain ⟨hdrive, htrace⟩ := hplays.drive_endRun hs hg rest
  obtain ⟨htxBuf, htxLen⟩ := sameTx_of_steady hsteady
  exact ⟨u.noData _, hdrive, htrace, rfl, rfl, rfl, rfl, rfl, htxBuf, htxLen, (congrArg State.crc hsteady :)⟩

/-! ## Levels and bit counts (R233) -/

/-- The valid bits of the last byte are among those of their mask (R49). -/
theorem lastBits_le_mask (c : Config) (control : Byte) : lastBits c control ≤ c.bit.rxLastBits.toNat := by
  rw [lastBits, BitVec.toNat_and]
  exact Nat.and_le_right

theorem clampLevel_eq (lvl : Byte) : clampLevel lvl = max 1 (min lvl.toNat 64) := rfl

/-- Settles O38: the clamp case by case, and the bit count within the bytes it counts. -/
theorem levelIsClampedAndBitCountFits : Obligations.LevelIsClampedAndBitCountFits := by
  intro c lvl ctl hmask
  obtain ⟨hpos, h64⟩ := clampLevel_bounds lvl
  have hseven : lastBits c ctl ≤ 7 := by simpa [hmask] using lastBits_le_mask c ctl
  obtain ⟨hlo, hhi⟩ := bitCount_bounds hpos hseven
  refine ⟨?zero, fun h => ?above, fun h1 h2 => ?within, fun hr => if_pos hr, fun hr => if_neg (not_not.2 hr), ?_, ?_⟩
  case zero => rintro rfl; rfl
  case above => rw [clampLevel_eq]; omega
  case within => rw [clampLevel_eq]; omega
  · omega
  · omega

/-! ## The lengths of the traces (R238) -/

section
variable (c : Config) (cmd : Command) (frame polls rx : List Byte) (irq lvl framing err control : Byte)

@[simp] theorem length_startTrace : (startTrace c cmd frame irq lvl framing).length =
    7 + frame.length + if cmd = .transceive then 2 else 0 := by
  simp only [startTrace, armTrace, clearBitsTrace, setBitsTrace, List.length_append, List.length_cons, List.length_nil,
    List.length_map]
  split <;> simp <;> omega

@[simp] theorem length_pollTrace : (pollTrace c polls).length = polls.length := by simp [pollTrace]

@[simp] theorem length_outcomeTrace : (outcomeTrace c framing err).length = 3 := rfl

@[simp] theorem length_responseTrace : (responseTrace c lvl control rx).length = 2 + rx.length := by
  simp [responseTrace]; omega

end

/-- Settles O37: the lengths of the parts, added up. -/
theorem sequencerTraceLengths : Obligations.SequencerTraceLengths := by
  intro c frame polls rx irq lvl0 f0 f1 err lvl ctl
  refine ⟨?_, ?_, ?_, ?_, ?_⟩ <;> simp <;> omega

end Sys2Proof.Machine
end

section
/-! PROOF. What the CRC coprocessor is expected to compute (R272, R273): its residue and its check values. -/

namespace Sys2Proof.Machine

/-! ## Division without a remainder bit (R272) -/

/-- Where the bit pushed out is clear, dividing only shifts. -/
theorem crcBit_shiftRight {x : BitVec 16} {i : Nat} (h : x.getLsbD i = false) : crcBit (x >>> i) = x >>> (i + 1) := by
  have hout : (x >>> i).getLsbD 0 = false := by simpa using h
  rw [crcBit, hout, if_neg Bool.false_ne_true, BitVec.shiftRight_add]

/-- Where no bit of the low byte is left to divide, a byte only shifts. -/
theorem crcByte_eq_shiftRight {x : BitVec 16} {b : Byte} (h : ∀ i < 8, (x ^^^ b.zeroExtend 16).getLsbD i = false) :
    crcByte x b = (x ^^^ b.zeroExtend 16) >>> 8 := by
  have hbit (i : Nat) (hi : i < 8) :
      crcBit ((x ^^^ b.zeroExtend 16) >>> i) = (x ^^^ b.zeroExtend 16) >>> (i + 1) := crcBit_shiftRight (h i hi)
  have hfirst : crcBit (x ^^^ b.zeroExtend 16) = (x ^^^ b.zeroExtend 16) >>> 1 := hbit 0 (by decide)
  simp only [crcByte, hfirst, hbit, Nat.reduceLT, Nat.reduceAdd]

/-- A byte that equals the low byte of the CRC clears it, and leaves the high byte in its place. -/
theorem crcByte_low (x : BitVec 16) : crcByte x (x.extractLsb' 0 8) = (x.extractLsb' 8 8).zeroExtend 16 := by
  rw [crcByte_eq_shiftRight fun i hi => by simp [hi, show i < 16 by omega]]
  ext i hi
  by_cases hlow : i < 8
  · simp [hlow, show 8 + i < 16 by omega]
  · simp [hlow, BitVec.getLsbD_of_ge x (8 + i) (by omega)]

/-- A byte that equals the whole CRC leaves nothing. -/
theorem crcByte_self (b : Byte) : crcByte (b.zeroExtend 16) b = 0 := by
  rw [crcByte, BitVec.xor_self]
  rfl

/-- R273, from any preset: the two CRC bytes, low byte first, take the CRC to 0. -/
theorem crcFrom_crcBytes (x : BitVec 16) : crcFrom x (crcBytes x) = 0 := by
  rw [crcFrom, crcBytes, List.foldl_cons, List.foldl_cons, List.foldl_nil, crcByte_low, crcByte_self]

theorem crcFrom_append (preset : BitVec 16) (l l' : List Byte) :
    crcFrom preset (l ++ l') = crcFrom (crcFrom preset l) l' := List.foldl_append

/-! ## The residue and the check values (R273) -/

/-- Settles O40: after the sequence the CRC bytes are those of the CRC reached. -/
theorem crcOfAClosedFrameIsZero : Obligations.CrcOfAClosedFrameIsZero := by
  intro l
  rw [crcA, crcFrom_append]
  exact crcFrom_crcBytes (crcA l)

/-- Settles O41: nine closed computations of at most two bytes. -/
theorem crcCheckValues : Obligations.CrcCheckValues := by
  unfold Obligations.CrcCheckValues
  decide +kernel

end Sys2Proof.Machine
end

section
/-! PROOF. `calculateCRC` end to end, whatever the operation and its payload (R260 to R270). -/

namespace Sys2Proof.Machine

/-! ## The error byte stands (R268) -/

/-- No place of `calculateCRC` changes `E.ERRV`. -/
theorem crcAdvance_errV (s : State) (op : Op) (k : Nat) (v : Byte) (q : CrcPoint) :
    (crcAdvance s op k v q).errV = s.errV := by
  have hpush (i : Nat) : (crcPush s op k i).errV = s.errV := by
    unfold crcPush
    split <;> rfl
  cases q with
  | flushWrite => exact hpush 0
  | push i => exact hpush (i + 1)
  | poll =>
    simp only [crcAdvance]
    split <;> rfl
  | resultM =>
    simp only [crcAdvance, enterRun]
    split <;> rfl
  | _ => rfl

/-- Since the CRC of `op` began: whatever runs goes on from `op`, and `E.ERRV` holds `e` while that CRC lasts. -/
def ErrorStandsInCrc (op : Op) (e : Byte) (s : State) : Prop :=
  ∀ op' k p, s.seq = .run op' k p → op.goesOnAs op' ∧ (op' = op → ∀ q, p = .crc q → s.errV = e)

theorem ErrorStandsInCrc.tick {op : Op} {e : Byte} {s : State} (h : ErrorStandsInCrc op e s) (hrun : s.running = true)
    (a : Answer) : ErrorStandsInCrc op e (tick s a) := by
  obtain ⟨op₁, k, p, hs⟩ := (running_iff s).1 hrun
  obtain ⟨hop, herr⟩ := h op₁ k p hs
  intro op' k' p' hs'
  cases a with
  | failed =>
    rw [(tick_failed_latches hrun).2] at hs'
    cases hs'
  | done v =>
    rw [tick_done hs] at hs' ⊢
    obtain hidle | ⟨p'', hnext, hf⟩ | ⟨rfl, -, htwo⟩ :=
      advance_leads (op := op₁) (k := k + 1) (p := p) (s.record (request s op₁ p) v) v
    · rw [hidle] at hs'
      cases hs'
    · rw [hnext] at hs'
      cases hs'
      refine ⟨hop, fun heq q hq => ?_⟩
      subst hq
      cases p with
      | crc q₀ => exact (crcAdvance_errV _ _ _ _ _).trans (herr heq q₀ rfl)
      | _ => exact hf.elim
    · rw [htwo] at hs'
      cases hs'
      refine ⟨hop.two, fun heq => ?_⟩
      subst heq
      obtain hone | ⟨hone, -⟩ := hop <;> cases hone

/-- Playing from one place of a CRC to another leaves `E.ERRV`. -/
theorem ArrivesCrc.errV_eq {op : Op} {s t : State} {es : List Event} {k : Nat} {q q' : CrcPoint}
    (h : ArrivesCrc op s es q' t) (hs : s.seq = .run op k (.crc q)) {as : List Answer} (hg : tapeGives as es = true) :
    t.errV = s.errV := by
  have hstart : ErrorStandsInCrc op s.errV s := by
    intro op' k' p hs'
    rw [hs] at hs'
    cases hs'
    exact ⟨.inl rfl, fun _ _ _ => rfl⟩
  have hend : ErrorStandsInCrc op s.errV (drive as s) :=
    drive_induction (fun u a hrun hu => hu.tick hrun a) (fun u as hu => hu) as s hstart
  rw [← List.append_nil as, h.plays.run as [] hg, drive_nil] at hend
  obtain ⟨k', ht⟩ := h.place
  exact (hend op k' _ ht).2 rfl q' rfl

/-! ## The trace up to the result bytes (R260 to R266) -/

/-- The transactions of `calculateCRC` before its result is read. -/
def crcPolledTrace (c : Config) (payload : List Byte) (irq lvl : Byte) (polls : List Byte) : List Event :=
  clearBitsTrace c.reg.divIrq irq c.bit.crcIRq ++
  setBitsTrace c.reg.fifoLevel lvl c.bit.flushBuffer ++
  payload.map (.write c.reg.fifoData) ++
  [.write c.reg.command (c.cmd.code .calcCrc)] ++
  polls.map (.read c.reg.divIrq)

theorem crcTrace_eq (c : Config) (payload : List Byte) (irq lvl : Byte) (polls : List Byte) (lo hi : Byte) :
    crcTrace c payload irq lvl polls lo hi =
      crcPolledTrace c payload irq lvl polls ++ [.read c.reg.crcResultL lo, .read c.reg.crcResultM hi] := rfl

@[simp] theorem length_crcTrace (c : Config) (payload : List Byte) (irq lvl : Byte) (polls : List Byte) (lo hi : Byte) :
    (crcTrace c payload irq lvl polls lo hi).length = 7 + payload.length + polls.length := by
  simp only [crcTrace, clearBitsTrace, setBitsTrace, List.length_append, List.length_map, List.length_cons,
    List.length_nil]
  omega

section
variable {op : Op} {k : Nat} {s : State}

/-- Clear, flush, payload, start and polls lead to the result registers, whichever way the poll leaves (R268). -/
theorem arrivesCrc_result (hs : s.seq = .run op k (.crc .clearRead)) (hlen : s.txLen.toNat ≤ 64) {quiet : List Byte}
    {last : Byte} (hpoll : CrcPollLeaves s.cfg quiet last) (irq lvl : Byte) :
    ∃ t, ArrivesCrc op s (crcPolledTrace s.cfg (firstBytes s.txBuf s.txLen.toNat) irq lvl (quiet ++ [last]))
      .resultL t := by
  obtain ⟨hquiet, hbudget, hlast⟩ := hpoll
  obtain ⟨t1, h1⟩ := arrivesCrc_clear hs irq
  obtain ⟨k1, hs1⟩ := h1.place
  obtain ⟨hbuf, hl⟩ := sameTx_of_steady h1.steady
  obtain ⟨t2, h2⟩ := arrivesCrc_payload hs1 (hl ▸ hlen) lvl
  rw [hbuf, hl, cfg_of_steady h1.steady] at h2
  have h12 := h1.trans h2
  obtain ⟨k2, hs2⟩ := h12.place
  obtain ⟨t3, h3, hcnt⟩ := arrivesCrc_start hs2
  rw [cfg_of_steady h12.steady] at h3 hcnt
  have h13 := h12.trans h3
  obtain ⟨k3, hs3⟩ := h13.place
  have hc := cfg_of_steady h13.steady
  obtain ⟨t, h4⟩ := arrivesCrc_poll quiet (last := last) hs3 (hc ▸ hquiet) (hcnt ▸ hbudget)
    (by rw [hcnt, hc]; exact hlast)
  rw [hc] at h4
  exact ⟨t, by simpa only [crcPolledTrace, List.append_assoc] using h13.trans h4⟩

/-! ## The result bytes (R267, R270) -/

/-- A frame that fits the FIFO goes into the exchange (R224). -/
theorem enterRun_of_fits (h : s.txLen.toNat ≤ 64) (k : Nat) : enterRun s op k = s.goto op k (.run .enable) :=
  if_neg (by rw [Config.fifoSize]; omega)

/-- The second byte read closes the frame, and the exchange is entered. -/
theorem plays_appendCrc (hs : s.seq = .run op k (.crc .resultM)) (hlen : s.txLen.toNat ≤ 62) (hi : Byte) :
    Plays s [.read s.cfg.reg.crcResultM hi]
      ((State.appendCrc { s.record (.read s.cfg.reg.crcResultM) hi with crc := putBytes s.crc 1 [hi] }).goto op (k + 1)
        (.run .enable)) := by
  rw [← enterRun_of_fits (by rw [State.appendCrc_txLen, State.record_txLen]; bv_omega)]
  exact plays_read hs rfl hi

/-- The two bytes read stand in `E.CRC` and behind the payload, and no other register changes. -/
theorem plays_crcAppend (hs : s.seq = .run op k (.crc .resultL)) (hlen : s.txLen.toNat ≤ 62) (lo hi : Byte) :
    ∃ (t : State) (k' : Nat), Plays s [.read s.cfg.reg.crcResultL lo, .read s.cfg.reg.crcResultM hi]
        (t.goto op k' (.run .enable)) ∧
      t.registers = (State.appendCrc { s with crc := #v[lo, hi] }).registers := by
  have hlo := plays_read hs (a := s.cfg.reg.crcResultL) rfl lo
  have hhi := plays_appendCrc (op := op) (k := k + 1)
    (s := State.goto { s.record (.read s.cfg.reg.crcResultL) lo with crc := putBytes s.crc 0 [lo] } op (k + 1)
      (.crc .resultM)) rfl hlen hi
  refine ⟨_, _, hlo.trans hhi, ?_⟩
  rw [← putBytes_crc s.crc lo hi]
  rfl

end

/-- Settles O39: the poll is left to the result registers, whose bytes are read and appended. -/
theorem crcIsReadAndAppendedHoweverThePollLeaves : Obligations.CrcIsReadAndAppendedHoweverThePollLeaves := by
  intro s op k irq lvl0 last lo hi quiet as rest hs hlen hpoll es hg
  obtain ⟨u, hpolled⟩ := arrivesCrc_result hs (by omega) hpoll irq lvl0
  have hcut : es = crcPolledTrace .. ++ _ := crcTrace_eq ..
  obtain ⟨as', -, -, hg', -⟩ := tapeGives_append (hcut ▸ hg)
  have herr : u.errV = s.errV := hpolled.errV_eq hs hg'
  obtain ⟨htxBuf, htxLen⟩ := sameTx_of_steady hpolled.steady
  obtain ⟨k1, hs1⟩ := hpolled.place
  obtain ⟨t, k', hresult, ht⟩ := plays_crcAppend hs1 (htxLen ▸ hlen) lo hi
  rw [cfg_of_steady hpolled.steady] at hresult
  have hall : Plays s es (t.goto op k' (.run .enable)) := hpolled.plays.trans hresult
  obtain rfl : k' = k + es.length := hall.atIndex hs hg op k' _ rfl
  have htBuf : t.txBuf = putBytes s.txBuf s.txLen.toNat [lo, hi] := by
    rw [← htxBuf, ← htxLen]
    exact (congrArg State.txBuf ht :)
  have htLen : t.txLen = s.txLen + 2 := htxLen ▸ (congrArg State.txLen ht :)
  refine ⟨t, hall.run as rest hg, hall.trace, ?length, (congrArg State.crc ht :), ?txLen, ?frame, ?beyond,
    (congrArg State.status ht :).trans (congrArg State.status hpolled.steady :),
    (congrArg State.rxBuf ht :).trans (congrArg State.rxBuf hpolled.steady :),
    (congrArg State.rxLen ht :).trans (congrArg State.rxLen hpolled.steady :),
    (congrArg State.rxBits ht :).trans (congrArg State.rxBits hpolled.steady :), (congrArg State.errV ht :).trans herr⟩
  case length =>
    rw [length_crcTrace, length_firstBytes, List.length_append, List.length_singleton]
    omega
  case txLen =>
    rw [htLen]
    bv_omega
  case frame =>
    rw [htBuf]
    exact firstBytes_append _ _ [lo, hi] (by simp; omega)
  case beyond =>
    intro j hj
    rw [htBuf, byteAt_putBytes _ _ _ _ (by simp; omega), if_neg (by simp; omega)]

end Sys2Proof.Machine
end

section
/-! PROOF. A failing transaction is the last one of its operation (R27, R74, R290, R300). -/

namespace Sys2Proof.Machine

/-! ## Taking the bus error -/

/-- What is known of the register space outside the failing address stays known (R74, U11). -/
theorem takeBusError_written (s : State) (r : Request) {b : Byte} (h : b ≠ r.addr) :
    (s.takeBusError r).written b = s.written b :=
  Request.failEffect_other _ _ fun e => h (BitVec.eq_of_toNat_eq e)

/-- A step whose answer is a failure takes the bus error of the place's transaction, and the operation's key is forgotten. -/
theorem step_failed {s : State} {op : Op} {k : Nat} {p : Point} {rest : List Answer} (hs : s.seq = .run op k p)
    (ha : s.answers = .failed :: rest) (hr : s.resetLine = false) (hi : s.inbox = []) :
    step s = .next (((s.withTape rest).takeBusError (request s op p)).releaseKey op) := by
  rw [step_deliver hr hi ((running_iff s).2 ⟨op, k, p, hs⟩) ha, tick_failed (by exact hs), request_withTape]

/-! ## Forgetting the key -/

section
variable (s : State) (op : Op)

@[simp] theorem State.releaseKey_cnt : (s.releaseKey op).cnt = s.cnt := by
  unfold State.releaseKey; split <;> rfl
@[simp] theorem State.releaseKey_tmp : (s.releaseKey op).tmp = s.tmp := by
  unfold State.releaseKey; split <;> rfl
@[simp] theorem State.releaseKey_txLen : (s.releaseKey op).txLen = s.txLen := by
  unfold State.releaseKey; split <;> rfl

/-- Only the key bytes of the operand block are forgotten with a key (R196, R300). -/
theorem byteAt_releaseKey {j : Nat} (h : j < 2 ∨ 8 ≤ j) : byteAt (s.releaseKey op).txBuf j = byteAt s.txBuf j := by
  cases hk : op.takesKey with
  | true => rw [releaseKey_keyed hk, byteAt_dropKey, if_neg (by omega)]
  | false => rw [State.releaseKey_keyless s hk]

end

/-! ## The obligation -/

/-- Settles O13: the step takes the bus error and forgets the operation's key, and each of the two leaves what is stated. -/
theorem failingTransactionTakesBusError : Obligations.FailingTransactionTakesBusError := by
  intro s op k p rest hs ha hr hi
  let u := (s.withTape rest).takeBusError (request s op p)
  obtain ⟨hcfg, hanswers, -, -, hevents, hmem, hfault⟩ := releaseKey_boundary u op
  have hkept : KeptByEnd op u (u.releaseKey op) := (KeptByEnd.refl op u).releaseKey
  obtain ⟨⟨-, herrV, hirqV⟩, ⟨hblk, hkeyB, hsn, hdata⟩, hkey⟩ := hkept
  refine ⟨u.releaseKey op, step_failed hs ha hr hi, u.releaseKey_seq op, hfault, u.releaseKey_reply op, hevents, hanswers,
    ?written, hcfg, u.releaseKey_txLen op, u.releaseKey_cnt op, hirqV, herrV, u.releaseKey_tmp op, hblk, hkeyB, hsn, hdata,
    ?keyless, fun j => byteAt_releaseKey u op⟩
  case written =>
    intro a hne
    calc (u.releaseKey op).written a
      _ = u.written a := congrArg (Memory.read · a.toNat) hmem
      _ = s.written a := takeBusError_written (s.withTape rest) _ hne
  case keyless =>
    intro hk
    exact ⟨hkey hk, (congrArg State.txBuf (State.releaseKey_keyless u hk) :)⟩

end Sys2Proof.Machine
end

section
/-! PROOF. The order of the writes to the command register: Transceive and MFAuthent come directly after Idle (R223, R225,
R337). -/

namespace Sys2Proof.Machine

/-! ## The command writes of a history -/

/-- The command that a place writes to `REG.Command`, a lone bus word apart. `commandWrites_entry` ties it to the machine. -/
def Point.writesCommand (op : Op) : Point → Option Command
  | .init .softReset => some .softReset
  | .crc .start => some .calcCrc
  | .run .idle => some .idle
  | .run .start => some op.runs
  | .command cmd => some cmd
  | _ => none

theorem commandWrites_append (c : Config) (es es' : List Event) :
    commandWrites c (es ++ es') = commandWrites c es ++ commandWrites c es' := List.filterMap_append

theorem commandWrites_read (c : Config) (a : Byte) (x : Answer) : commandWrites c [(Request.read a).entry x] = [] := by
  cases x <;> rfl

/-- A write of the command register counts, failed or not (R74). -/
theorem commandWrites_command (c : Config) (w : Byte) (x : Answer) :
    commandWrites c [(Request.write c.reg.command w).entry x] = [w] := by
  cases x <;> simp [commandWrites, Request.entry, Request.event, Request.failure]

theorem commandWrites_other {c : Config} (hw : c.Wf) {a : Byte} (ha : a ∈ c.reg.txControl :: plainWrites c.reg) (w : Byte)
    (x : Answer) : commandWrites c [(Request.write a w).entry x] = [] := by
  have hne : a ≠ c.reg.command := fun h => command_notMem hw.1 (h ▸ ha)
  cases x <;> simp [commandWrites, Request.entry, Request.event, Request.failure, hne]

/-- A transaction that is no lone bus write adds the command of its place to the command writes. -/
theorem commandWrites_entry {s : State} {op : Op} {p : Point} (hw : s.cfg.Wf) (hp : ∀ a v, p ≠ .busWrite a v)
    (x : Answer) :
    commandWrites s.cfg [(request s op p).entry x] = ((p.writesCommand op).map s.cfg.cmd.code).toList := by
  have plain {a : Byte} (ha : a ∈ s.cfg.reg.txControl :: plainWrites s.cfg.reg) (w : Byte) :
      commandWrites s.cfg [(Request.write a w).entry x] = [] := commandWrites_other hw ha w x
  cases p with
  | init q =>
    cases q with
    | softReset => exact commandWrites_command _ _ x
    | antennaTest => exact commandWrites_read _ _ x
    | antennaRead => exact commandWrites_read _ _ x
    | _ => exact plain (by simp [plainWrites]) _
  | framing => exact plain (by simp [plainWrites]) _
  | crc q =>
    cases q with
    | clearWrite => exact plain (by simp [plainWrites]) _
    | flushWrite => exact plain (by simp [plainWrites]) _
    | push i => exact plain (by simp [plainWrites]) _
    | start => exact commandWrites_command _ _ x
    | _ => exact commandWrites_read _ _ x
  | run q =>
    cases q with
    | enable => exact plain (by simp [plainWrites]) _
    | irqWrite => exact plain (by simp [plainWrites]) _
    | flushWrite => exact plain (by simp [plainWrites]) _
    | idle => exact commandWrites_command _ _ x
    | push i => exact plain (by simp [plainWrites]) _
    | start => exact commandWrites_command _ _ x
    | sendWrite => exact plain (by simp [plainWrites]) _
    | clearWrite => exact plain (by simp [plainWrites]) _
    | _ => exact commandWrites_read _ _ x
  | deauthRead => exact commandWrites_read _ _ x
  | deauthWrite => exact plain (by simp [plainWrites]) _
  | busRead a => exact commandWrites_read _ _ x
  | busWrite a v => exact absurd rfl (hp a v)
  | command cmd => exact commandWrites_command _ _ x

/-- One more command write keeps the order where it starts no exchange, or Idle is the last before it. -/
theorem idleFirst_concat {c : CommandCodes} {prev : Option Byte} {l : List Byte} {v : Byte}
    (hl : idleFirst c prev l = true) (hv : (v ≠ c.transceive ∧ v ≠ c.mfAuthent) ∨ l.getLast? = some c.idle) :
    idleFirst c prev (l ++ [v]) = true := by
  induction l generalizing prev with
  | nil =>
    obtain ⟨hne, hne'⟩ | hlast := hv
    · simp [idleFirst, hne, hne']
    · cases hlast
  | cons w l ih =>
    obtain ⟨hw, hl⟩ := Bool.and_eq_true_iff.1 hl
    refine Bool.and_eq_true_iff.2 ⟨hw, ?_⟩
    cases l with
    | nil =>
      obtain ⟨hne, hne'⟩ | hlast := hv
      · simp [idleFirst, hne, hne']
      · obtain rfl : w = c.idle := by simpa using hlast
        simp [idleFirst]
    | cons x l => exact ih hl (by rwa [List.getLast?_cons_cons] at hv)

/-! ## Between Idle and the command -/

/-- The places of `RunCommand` after its Idle write, up to the write of its command (R223 to R225). -/
def Point.afterIdle : Point → Bool
  | .run (.push _) => true
  | .run .start => true
  | _ => false

/-- The engine stands at none of the places that rely on an Idle written just before. -/
def Unprepared (t : State) : Prop := ∀ op k p, t.seq = .run op k p → p.afterIdle = false

theorem unprepared_of_run {t : State} {op : Op} {k : Nat} {p : Point} (h : t.seq = .run op k p)
    (hp : p.afterIdle = false) : Unprepared t := by
  intro op' k' p' hs
  rw [h] at hs
  cases hs
  exact hp

theorem unprepared_of_rest {t : State} (h : t.running = false) : Unprepared t := fun op k p hs => by
  simp [State.running, hs] at h

section
variable (s : State) (op : Op) (k : Nat)

theorem endRun_unprepared : Unprepared (s.endRun op k) := by
  obtain h | ⟨-, h⟩ := endRun_seq s op k
  · exact unprepared_of_rest (by simp [State.running, h])
  · exact unprepared_of_run h rfl

theorem enterRun_unprepared : Unprepared (enterRun s op k) := by
  unfold enterRun
  split
  · exact unprepared_of_rest rfl
  · exact unprepared_of_run rfl rfl

theorem crcAdvance_unprepared (v : Byte) (q : CrcPoint) : Unprepared (crcAdvance s op k v q) := by
  cases q with
  | flushWrite => simp only [crcAdvance, crcPush]; split <;> exact unprepared_of_run rfl rfl
  | push i => simp only [crcAdvance, crcPush]; split <;> exact unprepared_of_run rfl rfl
  | poll => simp only [crcAdvance]; split <;> exact unprepared_of_run rfl rfl
  | resultM => exact enterRun_unprepared _ op k
  | _ => exact unprepared_of_run rfl rfl

theorem afterPoll_unprepared : Unprepared (afterPoll s op k) := by
  unfold afterPoll
  split
  · exact endRun_unprepared _ op k
  · split <;> exact unprepared_of_run rfl rfl

theorem afterError_unprepared : Unprepared (afterError s op k) := by
  unfold afterError
  split
  · exact endRun_unprepared _ op k
  · split
    · exact endRun_unprepared _ op k
    · split
      · exact unprepared_of_run rfl rfl
      · exact endRun_unprepared _ op k

/-- Inside `RunCommand` only the Idle write and the pushes lead to the places after Idle. -/
theorem runAdvance_unprepared (v : Byte) {q : RunPoint} (hidle : q ≠ .idle) (hpush : ∀ i, q ≠ .push i) :
    Unprepared (runAdvance s op k v q) := by
  cases q with
  | idle => exact absurd rfl hidle
  | push i => exact absurd rfl (hpush i)
  | start => simp only [runAdvance]; split <;> exact unprepared_of_run rfl rfl
  | poll => exact afterPoll_unprepared _ op k
  | error => exact afterError_unprepared _ op k
  | drain len i =>
    simp only [runAdvance, afterDrain]
    split
    · exact unprepared_of_run rfl rfl
    · exact endRun_unprepared _ op k
  | _ => exact unprepared_of_run rfl rfl

/-- So does no other place of an operation. -/
theorem advance_unprepared (v : Byte) {p : Point} (hidle : p ≠ .run .idle) (hpush : ∀ i, p ≠ .run (.push i)) :
    Unprepared (advance s op k v p) := by
  cases p with
  | init q =>
    cases q with
    | antennaTest =>
      rw [advance_antennaTest]
      split
      · exact unprepared_of_rest rfl
      · exact unprepared_of_run rfl rfl
    | antennaWrite => exact unprepared_of_rest rfl
    | _ => exact unprepared_of_run rfl rfl
  | framing => exact enterRun_unprepared _ op k
  | crc q => exact crcAdvance_unprepared s op k v q
  | run q => exact runAdvance_unprepared s op k v (fun h => hidle (h ▸ rfl)) fun i h => hpush i (h ▸ rfl)
  | deauthRead => exact unprepared_of_run rfl rfl
  | _ => exact unprepared_of_rest rfl

end

/-- A place after Idle is reached from the Idle write or from a push. -/
theorem tick_afterIdle {s : State} {op op' : Op} {k k' : Nat} {p p' : Point} {x : Answer} (hs : s.seq = .run op k p)
    (h : (tick s x).seq = .run op' k' p') (hp : p'.afterIdle = true) : p = .run .idle ∨ ∃ i, p = .run (.push i) := by
  by_contra hno
  obtain ⟨hidle, hpush⟩ := not_or.1 hno
  have hun : Unprepared (tick s x) := by
    cases x with
    | failed => exact unprepared_of_rest (by rw [tick_failed hs]; simp [State.running])
    | done v => rw [tick_done hs]; exact advance_unprepared _ _ _ _ hidle fun i hi => hpush ⟨i, hi⟩
  simp [hun op' k' p' h] at hp

/-! ## The order over a run -/

/-- The command writes since `before` are in order, and Idle is the last of them wherever an exchange is about to start. -/
def CommandsOrdered (c : Config) (before : List Event) (u : State) : Prop :=
  ∃ new, u.events = new ++ before ∧ idleFirst c.cmd none (commandWrites c new.reverse) = true ∧
    ∀ op k p, u.seq = .run op k p → p.afterIdle = true →
      (commandWrites c new.reverse).getLast? = some c.cmd.idle

/-- The other three codes are neither of the two that start an exchange (R104). -/
theorem code_starts_no_exchange {c : Config} (hw : c.Wf) {cmd : Command} (ht : cmd ≠ .transceive)
    (hm : cmd ≠ .mfAuthent) :
    c.cmd.code cmd ≠ c.cmd.transceive ∧ c.cmd.code cmd ≠ c.cmd.mfAuthent := by
  obtain ⟨-, hcodes, -⟩ := hw
  simp only [CommandCodes.codes, List.nodup_cons, List.mem_cons, not_or] at hcodes
  cases cmd with
  | transceive => exact absurd rfl ht
  | mfAuthent => exact absurd rfl hm
  | _ => simp [CommandCodes.code, hcodes, Ne.symm]

/-- A place that writes a command writes one that starts no exchange, or stands after Idle, a command row apart. -/
theorem Point.writesCommand_cases {op : Op} {p : Point} {cmd : Command} (h : p.writesCommand op = some cmd)
    (hp : ∀ cmd, p ≠ .command cmd) : (cmd ≠ .transceive ∧ cmd ≠ .mfAuthent) ∨ p.afterIdle = true := by
  cases p with
  | init q => cases q <;> cases h; exact .inl ⟨nofun, nofun⟩
  | crc q => cases q <;> cases h; exact .inl ⟨nofun, nofun⟩
  | run q =>
    cases q with
    | idle => cases h; exact .inl ⟨nofun, nofun⟩
    | start => exact .inr rfl
    | _ => cases h
  | command cmd => exact absurd rfl (hp cmd)
  | _ => cases h

/-- A transaction of a host operation keeps the order. -/
theorem CommandsOrdered.tick {before : List Event} {u : State} {op : Op} {k : Nat} {p : Point}
    (h : CommandsOrdered u.cfg before u) (hs : u.seq = .run op k p) (hw : u.cfg.Wf) (hbus : ∀ a v, p ≠ .busWrite a v)
    (hrow : ∀ cmd, p ≠ .command cmd) (x : Answer) : CommandsOrdered u.cfg before (tick u x) := by
  obtain ⟨new, hnew, horder, hidle⟩ := h
  refine ⟨(request u op p).entry x :: new, by rw [tick_events hs, hnew, List.cons_append], ?_⟩
  rw [List.reverse_cons, commandWrites_append, commandWrites_entry hw hbus]
  cases hc : p.writesCommand op with
  | none =>
    rw [Option.map_none, Option.toList_none, List.append_nil]
    refine ⟨horder, fun op' k' p' hs' hp' => ?_⟩
    obtain rfl | ⟨i, rfl⟩ := tick_afterIdle hs hs' hp'
    · cases hc
    · exact hidle _ _ _ hs rfl
  | some cmd =>
    rw [Option.map_some, Option.toList_some]
    refine ⟨idleFirst_concat horder ?_, fun op' k' p' hs' hp' => ?_⟩
    · obtain ⟨ht, hm⟩ | hafter := Point.writesCommand_cases hc hrow
      · exact .inl (code_starts_no_exchange hw ht hm)
      · exact .inr (hidle _ _ _ hs hafter)
    · rw [List.getLast?_concat]
      obtain rfl | ⟨i, rfl⟩ := tick_afterIdle hs hs' hp'
      · cases hc; rfl
      · cases hc

/-- A host operation comes neither to a lone bus word nor to a command row. -/
theorem PlaceOf.host {c : Config} {i : Instr} {op : Op} {p : Point} (h : PlaceOf c i op p) (hi : i.port = .host) :
    (∀ a v, p ≠ .busWrite a v) ∧ ∀ cmd, p ≠ .command cmd := by
  constructor
  · rintro a v rfl
    obtain ⟨rfl, -⟩ := h
    cases hi
  · rintro cmd rfl
    have hop : i.op = .command := h
    cases i with
    | cmdIdle => cases hi
    | cmdCalcCrc => cases hi
    | cmdTransceive => cases hi
    | cmdMfAuthent => cases hi
    | cmdSoftReset => cases hi
    | _ => exact nomatch hop

/-- No host operation starts at a place after Idle. -/
theorem startOf_unprepared {i : Instr} (hi : i.port = .host) (s : State) : Unprepared (startOf i s) := by
  cases i with
  | rdreg a d => cases hi
  | wrreg a v => cases hi
  | _ => exact unprepared_of_run rfl rfl

/-- Settles O23: wherever the command of an exchange is about to be written, Idle is the last command written. -/
theorem idlePrecedesTransceiveAndMfAuthent : Obligations.IdlePrecedesTransceiveAndMfAuthent := by
  intro i s t hi hw h
  have htick (u : State) (x : Answer) (hrun : u.running = true)
      (hu : u.cfg = s.cfg ∧ OnCourse i u ∧ CommandsOrdered s.cfg s.events u) :
      (tick u x).cfg = s.cfg ∧ OnCourse i (tick u x) ∧ CommandsOrdered s.cfg s.events (tick u x) := by
    obtain ⟨hc, hcourse, horder⟩ := hu
    obtain ⟨op, k, p, hs⟩ := (running_iff u).1 hrun
    obtain ⟨-, hp⟩ := hcourse op k p hs
    obtain ⟨hbus, hrow⟩ := hp.host hi
    refine ⟨(tick_outside u x).1.trans hc, hcourse.tick x, ?_⟩
    rw [← hc] at horder hw ⊢
    exact horder.tick hs hw hbus hrow x
  obtain ⟨hc, -, -, -, he, -, -⟩ := startOf_boundary i s
  have hstart : CommandsOrdered s.cfg s.events (startOf i s) :=
    ⟨[], he, rfl, fun op k p hs hp => by simp [startOf_unprepared hi s op k p hs] at hp⟩
  obtain ⟨-, -, new, hnew, horder, -⟩ :=
    runs_induction h ⟨hc, startOf_onCourse i h.1.1, hstart⟩ htick fun u as hu => hu
  exact ⟨new, hnew, horder⟩

end Sys2Proof.Machine
end

section
/-! PROOF. Every instruction ends, within the bounds of R351 (R228, R238, R266, R268): the bounds are added up from the
last transaction of an operation backwards to its first. -/

namespace Sys2Proof.Machine

/-! ## Ending within bounds -/

/-- The operation has ended with a reply that ends it. -/
structure State.Ended (s : State) : Prop where
  idle : s.seq = .idle
  noFault : s.busFault = false
  reply : s.reply.ends = true

/-- Whatever bytes the bus answers, the operation ends after at least `lo` and at most `hi` further transactions.
`EndsWithin.drive` ties it to the runs of the machine. -/
inductive EndsWithin : Nat → Nat → State → Prop
  | ended {hi : Nat} {s : State} (h : s.Ended) : EndsWithin 0 hi s
  | goesOn {lo lo' hi : Nat} {s : State} (hrun : s.running = true) (hlo : lo' ≤ lo + 1)
      (h : ∀ v, EndsWithin lo hi (tick s (.done v))) : EndsWithin lo' (hi + 1) s

theorem EndsWithin.weaken {lo lo' hi hi' : Nat} {s : State} (h : EndsWithin lo hi s) (hlo : lo' ≤ lo) (hhi : hi ≤ hi') :
    EndsWithin lo' hi' s := by
  induction h generalizing lo' hi' with
  | ended h =>
    obtain rfl := Nat.le_zero.1 hlo
    exact .ended h
  | goesOn hrun hlo0 _ ih =>
    obtain ⟨hi', rfl⟩ := Nat.exists_eq_add_of_le' (Nat.one_le_of_lt (Nat.lt_of_succ_le hhi))
    exact .goesOn hrun (hlo.trans hlo0) fun v => ih v le_rfl (Nat.le_of_succ_le_succ hhi)

/-- A run over enough completed answers ends the operation, and takes an answer for each transaction it records. -/
theorem EndsWithin.drive {lo hi : Nat} {s : State} (h : EndsWithin lo hi s) (as : List Answer) (hok : NoFailure as)
    (hlen : hi ≤ as.length) :
    (drive as s).Ended ∧ ∃ new, (drive as s).events = new ++ s.events ∧ lo ≤ new.length ∧ new.length ≤ hi ∧
      (drive as s).answers = as.drop new.length := by
  induction h generalizing as with
  | @ended hi s h =>
    rw [drive_rest (by simp [State.running, h.idle])]
    exact ⟨⟨h.idle, h.noFault, h.reply⟩, [], rfl, le_rfl, Nat.zero_le _, rfl⟩
  | @goesOn lo lo' hi s hrun hlo _ ih =>
    cases as with
    | nil => simp at hlen
    | cons a as =>
      have hok' : NoFailure as := fun hmem => hok (List.mem_cons_of_mem _ hmem)
      cases a with
      | failed => exact absurd List.mem_cons_self hok
      | done v =>
        obtain ⟨op, k, p, hs⟩ := (running_iff s).1 hrun
        obtain ⟨hend, new, hnew, hmin, hmax, htape⟩ := ih v as hok' (Nat.le_of_succ_le_succ hlen)
        rw [tick_events hs] at hnew
        rw [drive_cons hrun]
        refine ⟨hend, new ++ [(request s op p).entry (.done v)], by simp [hnew], ?_, ?_, ?_⟩
        · simp only [List.length_append, List.length_singleton]; omega
        · simp only [List.length_append, List.length_singleton]; omega
        · simp [htape]

/-! ## Places and what they rely on -/

/-- The configuration, no bus error, and the number of bytes staged: what the number of transactions still to come
depends on. -/
abbrev Staged (c : Config) (n : Nat) (s : State) : Prop := s.cfg = c ∧ s.busFault = false ∧ s.txLen.toNat = n

theorem Staged.config {c : Config} {n : Nat} {s : State} (h : Staged c n s) : s.cfg = c := h.1

theorem Staged.noFault {c : Config} {n : Nat} {s : State} (h : Staged c n s) : s.busFault = false := h.2.1

theorem Staged.length {c : Config} {n : Nat} {s : State} (h : Staged c n s) : s.txLen.toNat = n := h.2.2

/-- From the place `p` of the operation, with `n` bytes staged, it ends within the bounds. -/
def PlaceWithin (c : Config) (n : Nat) (op : Op) (p : Point) (lo hi : Nat) : Prop :=
  ∀ s k, s.seq = .run op k p → Staged c n s → EndsWithin lo hi s

/-- From the end of `RunCommand` the operation ends within the bounds. -/
def AfterRunWithin (c : Config) (op : Op) (lo hi : Nat) : Prop :=
  ∀ (w : State) (k : Nat), w.cfg = c → w.busFault = false → EndsWithin lo hi (w.endRun op k)

section
variable {c : Config} {n : Nat} {op : Op} {p : Point} {lo hi : Nat}

theorem PlaceWithin.weaken {lo' hi' : Nat} (h : PlaceWithin c n op p lo hi) (hlo : lo' ≤ lo) (hhi : hi ≤ hi') :
    PlaceWithin c n op p lo' hi' :=
  fun s k hs hst => (h s k hs hst).weaken hlo hhi

/-- One transaction more than from where its answer leads. -/
theorem placeWithin_of_advance (h : ∀ s k v, Staged c n s → EndsWithin lo hi (advance s op k v p)) :
    PlaceWithin c n op p (lo + 1) (hi + 1) := fun s k hs hst =>
  .goesOn ((running_iff s).2 ⟨op, k, p, hs⟩) le_rfl fun v => by
    rw [tick_done hs]
    exact h (s.record (request s op p) v) (k + 1) v hst

theorem PlaceWithin.goto (h : PlaceWithin c n op p lo hi) {w : State} (hw : Staged c n w) (k : Nat) :
    EndsWithin lo hi (w.goto op k p) := h _ k rfl hw

theorem PlaceWithin.enterOp (h : PlaceWithin c n op p lo hi) {w : State} (hw : Staged c n w) :
    EndsWithin lo hi (w.enterOp op p) := h _ 0 rfl hw

/-- A use of a register helper is two transactions (R143, R144). -/
theorem HelperUse.placeWithin {pr pw : Point} {addr : RegMap → Byte} {bits : Masks → Byte → Byte}
    (hu : HelperUse op pr pw addr bits) (h : PlaceWithin c n op pw lo hi) :
    PlaceWithin c n op pr (lo + 1) (hi + 1) :=
  placeWithin_of_advance fun s k v hs => by
    rw [hu.keep]
    exact h.goto (w := { s with tmp := v }) hs k

/-! ## Operations without an exchange -/

theorem ended_finishUnit {s : State} (h : s.busFault = false) : s.finishUnit.Ended := ⟨rfl, h, rfl⟩

/-- INIT makes its seven writes and the antenna test, and two transactions more where the antenna is off (R168). -/
theorem init_placeWithin : PlaceWithin c n .init (.init .softReset) 8 10 := by
  have antennaWrite : PlaceWithin c n .init (.init .antennaWrite) 1 1 :=
    placeWithin_of_advance fun s k v hs => .ended (ended_finishUnit hs.noFault)
  have antennaRead := (antenna_helperUse .init).placeWithin antennaWrite
  have antennaTest : PlaceWithin c n .init (.init .antennaTest) 1 3 :=
    placeWithin_of_advance fun s k v hs => by
      rw [advance_antennaTest]
      split
      · exact .ended (ended_finishUnit (s := { s with tmp := v }) hs.noFault)
      · exact (antennaRead.goto (w := { s with tmp := v }) hs k).weaken (Nat.zero_le _) le_rfl
  have mode := placeWithin_of_advance (p := .init .mode) fun s k v hs => antennaTest.goto hs k
  have txASK := placeWithin_of_advance (p := .init .txASK) fun s k v hs => mode.goto hs k
  have tReloadH := placeWithin_of_advance (p := .init .tReloadH) fun s k v hs => txASK.goto hs k
  have tReloadL := placeWithin_of_advance (p := .init .tReloadL) fun s k v hs => tReloadH.goto hs k
  have tPrescaler := placeWithin_of_advance (p := .init .tPrescaler) fun s k v hs => tReloadL.goto hs k
  have tMode := placeWithin_of_advance (p := .init .tMode) fun s k v hs => tPrescaler.goto hs k
  exact placeWithin_of_advance fun s k v hs => tMode.goto hs k

/-- DEAUTHENTICATE is one use of `CLEARBITS` (R201). -/
theorem deauthenticate_placeWithin : PlaceWithin c n .deauthenticate .deauthRead 2 2 :=
  (deauth_helperUse .deauthenticate).placeWithin
    (placeWithin_of_advance fun _ _ _ hs => .ended (ended_finishUnit hs.noFault))

/-- A bus word or a command row is one transaction (R104, R141, R142). -/
theorem lone_placeWithin {x : Byte → Reply} (hadv : ∀ s k v, advance s op k v p = s.finishLone (x v))
    (hx : ∀ v, (x v).ends = true) : PlaceWithin c n op p 1 1 :=
  placeWithin_of_advance fun s k v hs => by
    rw [hadv]
    exact .ended ⟨rfl, hs.noFault, hx v⟩

/-! ## `RunCommand` (R220, R238) -/

/-- The drain makes one read for each byte left (R234). -/
theorem drain_placeWithin (h : AfterRunWithin c op lo hi) (m : Nat) {len i : Nat} (hi' : i + m + 1 = len) :
    PlaceWithin c n op (.run (.drain len i)) (lo + m + 1) (hi + m + 1) := by
  refine placeWithin_of_advance fun s k v hs => ?_
  change EndsWithin _ _ (afterDrain { s with rxBuf := putBytes s.rxBuf i [v] } op k len i)
  unfold afterDrain
  cases m with
  | zero =>
    rw [if_neg (by omega)]
    exact h _ k hs.config hs.noFault
  | succ m =>
    rw [if_pos (by omega)]
    exact (drain_placeWithin h m (by omega)).goto (w := { s with rxBuf := putBytes s.rxBuf i [v] }) hs k

/-- Step 4: level, control, and between 1 and 64 bytes (R233, R234). -/
theorem level_placeWithin (h : AfterRunWithin c op lo hi) : PlaceWithin c n op (.run .level) (lo + 3) (hi + 66) := by
  have control (lvl : Byte) : PlaceWithin c n op (.run (.control lvl)) (lo + 2) (hi + 65) :=
    placeWithin_of_advance fun s k v hs => by
      obtain ⟨h1, h64⟩ := clampLevel_bounds lvl
      have drain := drain_placeWithin (n := n) h (clampLevel lvl - 1) (len := clampLevel lvl) (i := 0) (by omega)
      exact (drain.weaken (by omega) (by omega)).goto
        (w := { s with rxBits := BitVec.ofNat 10 (bitCount (clampLevel lvl) (lastBits s.cfg v)) }) hs k
  exact placeWithin_of_advance fun s k v hs => (control v).goto hs k

/-- The most transactions of step 4, which only a Transceive comes to (R238, R241). -/
def Op.responseMax (op : Op) : Nat := if op.runs = .transceive then 66 else 0

/-- The error byte ends the exchange, or leads to the response (R231, R232, R241). -/
theorem error_placeWithin (h : AfterRunWithin c op lo hi) :
    PlaceWithin c n op (.run .error) (lo + 1) (hi + op.responseMax + 1) := by
  refine placeWithin_of_advance fun s k v hs => ?_
  have noData (st : Status) :
      EndsWithin lo (hi + op.responseMax) ((State.noData { s with errV := v } st).endRun op k) :=
    (h (State.noData { s with errV := v } st) k hs.config hs.noFault).weaken le_rfl (Nat.le_add_right _ _)
  change EndsWithin _ _ (afterError { s with errV := v } op k)
  unfold afterError
  split
  · exact noData _
  · split
    · exact noData _
    · split
      next hop =>
        rw [Op.responseMax, if_pos hop]
        exact ((level_placeWithin h).goto (w := { s with errV := v, status := .ok }) hs k).weaken (by omega) le_rfl
      next => exact noData _

/-- Step 3: start-send is cleared, the error register read (R230, R231). -/
theorem clear_placeWithin (h : AfterRunWithin c op lo hi) :
    PlaceWithin c n op (.run .clearRead) (lo + 3) (hi + op.responseMax + 3) :=
  (sendClear_helperUse op).placeWithin
    (placeWithin_of_advance fun _ k _ hs => (error_placeWithin h).goto hs k)

/-- The registers after a poll read that returned `v` (R228, R266). -/
def State.polled (s : State) (v : Byte) : State := { s with irqV := v, cnt := s.cnt - 1 }

theorem advance_poll (s : State) (op : Op) (k : Nat) (v : Byte) :
    advance s op k v (.run .poll) = afterPoll (s.polled v) op k := rfl

theorem advance_crcPoll (s : State) (op : Op) (k : Nat) (v : Byte) :
    advance s op k v (.crc .poll) =
      if (s.polled v).cnt = 0 ∨ crcDone s.cfg v then (s.polled v).goto op k (.crc .resultL)
      else (s.polled v).goto op k (.crc .poll) := rfl

theorem polled_cnt {s : State} {m : Nat} (h : s.cnt.toNat = m + 1) (v : Byte) : (s.polled v).cnt.toNat = m := by
  change (s.cnt - 1).toNat = m
  bv_omega

/-- Step 2 with `m + 1` poll reads left in the counter: all of them are made, or a read before the last leads to step 3
(R228, R229). -/
theorem poll_endsWithin (h : AfterRunWithin c op lo hi) (m : Nat) {s : State} {k : Nat}
    (hs : s.seq = .run op k (.run .poll)) (hst : Staged c n s) (hcnt : s.cnt.toNat = m + 1) :
    EndsWithin (lo + min 4 (m + 1)) (hi + op.responseMax + 2 + m + 1) s := by
  refine .goesOn (lo := lo + min 3 m) ((running_iff s).2 ⟨op, k, _, hs⟩) (by omega) fun v => ?_
  rw [tick_done hs, advance_poll]
  have hw : Staged c n ((s.record (request s op (.run .poll)) v).polled v) := hst
  have hleft := polled_cnt (s := s.record (request s op (.run .poll)) v) hcnt v
  generalize (s.record (request s op (.run .poll)) v).polled v = w at hw hleft ⊢
  unfold afterPoll
  cases m with
  | zero =>
    rw [if_pos (by bv_omega)]
    exact (h (w.noData .protocolError) (k + 1) hw.config hw.noFault).weaken (by omega) (by omega)
  | succ m =>
    rw [if_neg (by bv_omega)]
    split
    · exact ((clear_placeWithin h).goto hw _).weaken (by omega) (by omega)
    · exact (poll_endsWithin h m (s := w.goto op (k + 1) (.run .poll)) rfl hw hleft).weaken (by omega) (by omega)

/-- The transactions that set start-send, which only a Transceive makes (R226). -/
def Op.sendTransactions (op : Op) : Nat := if op.runs = .transceive then 2 else 0

/-- From the start of the command on, with the poll's full budget (R225 to R228). -/
theorem start_placeWithin (h : AfterRunWithin c op lo hi) (hb : c.transceiveBudget ≠ 0) :
    PlaceWithin c n op (.run .start) (lo + min 4 c.transceiveBudget.toNat + op.sendTransactions + 1)
      (hi + op.responseMax + 2 + c.transceiveBudget.toNat + op.sendTransactions + 1) := by
  have poll (s : State) (k : Nat) (hs : Staged c n s) :
      EndsWithin (lo + min 4 c.transceiveBudget.toNat) (hi + op.responseMax + 2 + c.transceiveBudget.toNat)
        (State.goto { s with cnt := s.cfg.transceiveBudget } op k (.run .poll)) := by
    have hpos : s.cfg.transceiveBudget.toNat = c.transceiveBudget.toNat - 1 + 1 := by rw [hs.config]; bv_omega
    exact (poll_endsWithin h _
      (s := State.goto { s with cnt := s.cfg.transceiveBudget } op k (.run .poll)) rfl hs hpos).weaken
      (by bv_omega) (by bv_omega)
  refine placeWithin_of_advance fun s k v hs => ?_
  simp only [advance, runAdvance]
  unfold Op.sendTransactions
  split
  next hop =>
    have sendWrite := placeWithin_of_advance (p := .run .sendWrite) (op := op) fun s k _ hs => poll s k hs
    exact ((sendSet_helperUse op).placeWithin sendWrite).goto hs k
  next => exact poll s k hs

/-- The staging loop writes each byte left of the frame (R224). -/
theorem runPush_endsWithin (h : PlaceWithin c n op (.run .start) lo hi) (m : Nat) {i : Nat} (hn : i + m = n) {s : State}
    (hs : Staged c n s) (k : Nat) : EndsWithin (lo + m) (hi + m) (runPush s op k i) := by
  have hlen := hs.length
  unfold runPush
  induction m generalizing i s k with
  | zero =>
    rw [if_neg (by omega)]
    exact h.goto hs k
  | succ m ih =>
    rw [if_pos (by omega)]
    exact (placeWithin_of_advance fun s k v hs => ih (by omega) hs k hs.length).goto hs k

/-- `RunCommand` whole, with `n` bytes staged (R220, R238). -/
theorem run_placeWithin (h : AfterRunWithin c op lo hi) (hb : c.transceiveBudget ≠ 0) :
    PlaceWithin c n op (.run .enable) (lo + min 4 c.transceiveBudget.toNat + op.sendTransactions + n + 7)
      (hi + op.responseMax + op.sendTransactions + c.transceiveBudget.toNat + n + 9) := by
  have idle := placeWithin_of_advance (p := .run .idle) fun s k _ hs =>
    runPush_endsWithin (start_placeWithin h hb) n (Nat.zero_add n) hs k
  have flushWrite := placeWithin_of_advance (p := .run .flushWrite) fun s k _ hs => idle.goto hs k
  have irqWrite := placeWithin_of_advance (p := .run .irqWrite) fun s k _ hs =>
    ((runFlush_helperUse op).placeWithin flushWrite).goto hs k
  have enable := placeWithin_of_advance (p := .run .enable) fun s k _ hs =>
    ((irqClear_helperUse op).placeWithin irqWrite).goto hs k
  exact enable.weaken (by omega) (by omega)

/-- `transceiveCard` keeps to its bounds (R238). -/
theorem transceive_placeWithin (h : AfterRunWithin c op lo hi) (hb : c.transceiveBudget ≠ 0)
    (hop : op.runs = .transceive) : PlaceWithin c n op (.run .enable) (c.exchangeMin n + lo) (c.exchangeMax n + hi) := by
  have hrun := run_placeWithin (n := n) h hb
  simp only [Op.responseMax, Op.sendTransactions, if_pos hop] at hrun
  have hpos : 1 ≤ c.transceiveBudget.toNat := by bv_omega
  exact hrun.weaken (by unfold Config.exchangeMin; omega) (by unfold Config.exchangeMax; omega)

/-- `RunAuthent` keeps to its bounds (R238, R240). -/
theorem authent_placeWithin (h : AfterRunWithin c op 0 0) (hb : c.transceiveBudget ≠ 0) (hop : op.runs = .mfAuthent) :
    PlaceWithin c 12 op (.run .enable) c.authMin c.authMax := by
  have hrun := run_placeWithin (n := 12) h hb
  simp only [Op.responseMax, Op.sendTransactions, hop, reduceCtorEq, if_false] at hrun
  have hpos : 1 ≤ c.transceiveBudget.toNat := by bv_omega
  exact hrun.weaken (by unfold Config.authMin; omega) (by unfold Config.authMax; omega)

/-- A frame that fits the FIFO enters `RunCommand` (R224). -/
theorem enterRun_endsWithin (h : PlaceWithin c n op (.run .enable) lo hi) (hn : n ≤ 64) {s : State} (hs : Staged c n s)
    (k : Nat) : EndsWithin lo hi (enterRun s op k) := by
  rw [enterRun_of_fits (hs.length ▸ hn)]
  exact h.goto hs k

/-- The framing write comes before the exchange of its frame (R180, R185, R111, R112). -/
theorem framing_placeWithin (h : PlaceWithin c op.frameLength op (.run .enable) lo hi) (hf : op.frames = true) :
    PlaceWithin c n op .framing (lo + 1) (hi + 1) :=
  placeWithin_of_advance fun s k _ hs =>
    enterRun_endsWithin h (op.frameLength_le.trans (by decide)) (s := s.stage (op.framedFrame s.cfg))
      ⟨hs.config, hs.noFault, stage_txLen_toNat (Op.framedFrame_length hf s.cfg).2 op.frameLength_le⟩ k

/-! ## `calculateCRC` (R268) -/

/-- The CRC poll with `m + 1` reads left in the counter leaves at one of them (R266). -/
theorem crcPoll_endsWithin (h : PlaceWithin c n op (.crc .resultL) lo hi) (m : Nat) {s : State} {k : Nat}
    (hs : s.seq = .run op k (.crc .poll)) (hst : Staged c n s) (hcnt : s.cnt.toNat = m + 1) :
    EndsWithin (lo + 1) (hi + m + 1) s := by
  refine .goesOn (lo := lo) ((running_iff s).2 ⟨op, k, _, hs⟩) le_rfl fun v => ?_
  rw [tick_done hs, advance_crcPoll]
  have hw : Staged c n ((s.record (request s op (.crc .poll)) v).polled v) := hst
  have hleft := polled_cnt (s := s.record (request s op (.crc .poll)) v) hcnt v
  generalize (s.record (request s op (.crc .poll)) v).polled v = w at hw hleft ⊢
  split
  · exact (h.goto hw _).weaken le_rfl (Nat.le_add_right _ _)
  next hstays =>
    cases m with
    | zero => exact absurd (.inl (BitVec.eq_of_toNat_eq hleft)) hstays
    | succ m =>
      exact (crcPoll_endsWithin h m (s := w.goto op (k + 1) (.crc .poll)) rfl hw hleft).weaken (Nat.le_succ _) le_rfl

/-- The CRC's staging loop writes each byte left of the payload (R262). -/
theorem crcPush_endsWithin (h : PlaceWithin c n op (.crc .start) lo hi) (m : Nat) {i : Nat} (hn : i + m = n) {s : State}
    (hs : Staged c n s) (k : Nat) : EndsWithin (lo + m) (hi + m) (crcPush s op k i) := by
  have hlen := hs.length
  unfold crcPush
  induction m generalizing i s k with
  | zero =>
    rw [if_neg (by omega)]
    exact h.goto hs k
  | succ m ih =>
    rw [if_pos (by omega)]
    exact (placeWithin_of_advance fun s k v hs => ih (by omega) hs k hs.length).goto hs k

/-- `calculateCRC` over `n` staged bytes keeps to its bounds, and the exchange of the closed frame follows (R268, R270). -/
theorem crc_placeWithin (h : PlaceWithin c (n + 2) op (.run .enable) lo hi) (hb : c.crcBudget ≠ 0) (hn : n + 2 ≤ 64) :
    PlaceWithin c n op (.crc .clearRead) (Config.crcMin n + lo) (c.crcMax n + hi) := by
  have resultM : PlaceWithin c n op (.crc .resultM) (lo + 1) (hi + 1) :=
    placeWithin_of_advance fun s k v hs =>
      enterRun_endsWithin h hn (s := State.appendCrc { s with crc := putBytes s.crc 1 [v] })
        ⟨hs.config, hs.noFault, by have := hs.length; simp only [State.appendCrc_txLen]; bv_omega⟩ k
  have resultL : PlaceWithin c n op (.crc .resultL) (lo + 2) (hi + 2) :=
    placeWithin_of_advance fun s k v hs => resultM.goto (w := { s with crc := putBytes s.crc 0 [v] }) hs k
  have start : PlaceWithin c n op (.crc .start) (lo + 4) (hi + 2 + c.crcBudget.toNat + 1) :=
    placeWithin_of_advance fun s k v hs => by
      have hpos : s.cfg.crcBudget.toNat = c.crcBudget.toNat - 1 + 1 := by rw [hs.config]; bv_omega
      exact (crcPoll_endsWithin resultL _ (s := State.goto { s with cnt := s.cfg.crcBudget } op k (.crc .poll))
        rfl hs hpos).weaken le_rfl (by bv_omega)
  have flushWrite := placeWithin_of_advance (p := .crc .flushWrite) fun s k _ hs =>
    crcPush_endsWithin start n (Nat.zero_add n) hs k
  have clearWrite := placeWithin_of_advance (p := .crc .clearWrite) fun s k _ hs =>
    ((crcFlush_helperUse op).placeWithin flushWrite).goto hs k
  exact ((crcClear_helperUse op).placeWithin clearWrite).weaken (by unfold Config.crcMin; omega)
    (by unfold Config.crcMax; omega)

/-! ## The end of an operation -/

theorem Verdict.reply_ends {w t : State} (h : Verdict op w t) : t.reply.ends = true := by
  cases h <;> rw [State.releaseKey_reply] <;> rfl

/-- An exchange that leaves the engine at rest has ended its operation. -/
theorem ended_endRun (he : op.exchanges = true) {w : State} {k : Nat} (hb : w.busFault = false)
    (hidle : (w.endRun op k).seq = .idle) : (w.endRun op k).Ended := by
  obtain ⟨-, -, -, -, -, -, hbus⟩ := endRun_boundary w op k
  exact ⟨hidle, hbus.trans hb, (endRun_verdict he hidle).reply_ends⟩

/-- But for the first phase of WRITE nothing follows the exchange. -/
theorem afterRunWithin_of_ne (he : op.exchanges = true) (hop : op ≠ .write .one) : AfterRunWithin c op 0 0 :=
  fun w k _ hb => .ended (ended_endRun he hb ((endRun_seq w op k).resolve_right fun h => hop h.1))

/-- After the first phase of WRITE nothing follows, or the second does (R213). -/
theorem phaseOne_afterRunWithin (h : PlaceWithin c 16 (.write .two) (.crc .clearRead) lo hi) :
    AfterRunWithin c (.write .one) 0 hi := by
  intro w k hc hb
  change EndsWithin 0 hi (w.endWrite k .one)
  obtain ⟨-, hend⟩ | ⟨-, hend⟩ := endWrite_one_cases w k <;> rw [hend]
  · exact (h.goto (w := w.stage w.data.toList) ⟨hc, hb, stage_txLen_toNat (by simp) (by decide)⟩ k).weaken
      (Nat.zero_le _) le_rfl
  · exact .ended ⟨rfl, hb, rfl⟩

/-! ## Every instruction -/

/-- The bytes an instruction stages at acceptance are there at its first place. -/
theorem PlaceWithin.stage_enterOp (h : PlaceWithin c n op p lo hi) (hn : n ≤ 18) {s : State} (hc : s.cfg = c)
    (hb : s.busFault = false) {bytes : List Byte} (hl : bytes.length = n) :
    EndsWithin lo hi ((s.stage bytes).enterOp op p) :=
  h.enterOp ⟨hc, hb, stage_txLen_toNat hl hn⟩

/-- An operation that stages its frame at acceptance starts with the exchange (R338). -/
theorem startFrame_endsWithin {i : Instr} {kind : FrameKind} (h : i.port = .frame) {s : State} (hbus : s.busFault = false)
    (hp : PlaceWithin s.cfg i.op.frameLength (.exchange kind) (.run .enable) lo hi) :
    EndsWithin lo hi (startFrame i kind s) :=
  hp.stage_enterOp i.op.frameLength_le rfl hbus (encodeBytes_frame_length h s.cfg)

/-- An accepted instruction ends within the bounds of R351's table. -/
theorem startOf_endsWithin {i : Instr} {s : State} (ha : s.Accepting) (hw : s.cfg.Wf) (hi : i.wellFormed s.cfg = true) :
    EndsWithin (i.minTransactions s.cfg) (i.maxTransactions s.cfg) (startOf i s) := by
  obtain ⟨-, hbus⟩ := ha
  obtain ⟨hpoll, hcrc⟩ := Config.Wf.budgets hw
  have command (cmd : Command) : EndsWithin 1 1 (startCommand cmd s) :=
    (lone_placeWithin (p := .command cmd) (fun _ _ _ => rfl) fun _ => rfl).enterOp ⟨rfl, hbus, rfl⟩
  have exchange (op : Op) (n : Nat) (he : op.exchanges = true) (hne : op ≠ .write .one) (hop : op.runs = .transceive) :
      PlaceWithin s.cfg n op (.run .enable) (s.cfg.exchangeMin n) (s.cfg.exchangeMax n) :=
    transceive_placeWithin (afterRunWithin_of_ne he hne) hpoll hop
  have framed (op : Op) (he : op.exchanges = true) (hne : op ≠ .write .one) (hop : op.runs = .transceive)
      (hf : op.frames = true) : EndsWithin (1 + s.cfg.exchangeMin op.frameLength) (1 + s.cfg.exchangeMax op.frameLength)
        (s.enterOp op .framing) :=
    ((framing_placeWithin (exchange op _ he hne hop) hf).enterOp ⟨rfl, hbus, rfl⟩).weaken
      (Nat.add_comm _ _).le (Nat.add_comm _ _).le
  have authent (op : Op) (he : op.exchanges = true) (hne : op ≠ .write .one) (hop : op.runs = .mfAuthent) :
      PlaceWithin s.cfg 12 op (.run .enable) s.cfg.authMin s.cfg.authMax :=
    authent_placeWithin (afterRunWithin_of_ne he hne) hpoll hop
  cases i with
  | init => exact init_placeWithin.enterOp ⟨rfl, hbus, rfl⟩
  | scan => exact framed .scan rfl nofun rfl rfl
  | identify => exact framed .identify rfl nofun rfl rfl
  | select sn =>
    exact (crc_placeWithin (exchange .select 9 rfl nofun rfl) hcrc (by decide)).stage_enterOp
      (s := { s with sn := sn }) (by decide) rfl hbus (bytes := selectPayload s.cfg sn) (by simp [selectPayload])
  | authenticate keyB blk key uid =>
    exact (authent .authenticate rfl nofun rfl).stage_enterOp
      (s := { s with keyB := keyB, blk := blk, key := key, sn := latchUid s.sn uid }) (by decide) rfl hbus
      (bytes := authBlock s.cfg keyB blk key (latchUid s.sn uid)) (by simp [authBlock])
  | deauthenticate => exact deauthenticate_placeWithin.enterOp ⟨rfl, hbus, rfl⟩
  | read blk =>
    exact (crc_placeWithin (exchange .read 4 rfl nofun rfl) hcrc (by decide)).stage_enterOp
      (s := { s with blk := blk }) (by decide) rfl hbus (bytes := readPayload s.cfg blk) rfl
  | write blk data =>
    have phaseTwo := crc_placeWithin (exchange (.write .two) 18 rfl nofun rfl) hcrc (by decide)
    have phaseOne := transceive_placeWithin (n := 4) (phaseOne_afterRunWithin phaseTwo) hpoll rfl
    exact ((crc_placeWithin phaseOne hcrc (by decide)).stage_enterOp (s := { s with blk := blk, data := data })
      (by decide) rfl hbus (bytes := writePayload s.cfg blk) rfl).weaken le_rfl (Nat.add_assoc _ _ _).ge
  | rdreg a d =>
    rw [show startOf (.rdreg a d) s = s.enterOp .busTransaction (.busRead a) from if_pos hi]
    exact (lone_placeWithin (fun _ _ _ => rfl) fun _ => rfl).enterOp ⟨rfl, hbus, rfl⟩
  | wrreg a v =>
    rw [show startOf (.wrreg a v) s = s.enterOp .busTransaction (.busWrite a v) from if_pos hi]
    exact (lone_placeWithin (fun _ _ _ => rfl) fun _ => rfl).enterOp ⟨rfl, hbus, rfl⟩
  | cmdIdle => exact command .idle
  | cmdCalcCrc => exact command .calcCrc
  | cmdTransceive => exact command .transceive
  | cmdMfAuthent => exact command .mfAuthent
  | cmdSoftReset => exact command .softReset
  | request => exact framed (.exchange .request) rfl nofun rfl rfl
  | anticoll => exact framed (.exchange .anticoll) rfl nofun rfl rfl
  | selectFrame sn crc => exact startFrame_endsWithin rfl hbus (exchange _ 9 rfl nofun rfl)
  | authblkA blk key uid => exact startFrame_endsWithin rfl hbus (authent _ rfl nofun rfl)
  | authblkB blk key uid => exact startFrame_endsWithin rfl hbus (authent _ rfl nofun rfl)
  | mfRead blk crc => exact startFrame_endsWithin rfl hbus (exchange _ 4 rfl nofun rfl)
  | mfWrite blk crc => exact startFrame_endsWithin rfl hbus (exchange _ 4 rfl nofun rfl)
  | mfWriteData data crc => exact startFrame_endsWithin rfl hbus (exchange _ 18 rfl nofun rfl)

end

/-- Settles O25: the start of the instruction ends within its bounds, over the answers on the tape. -/
theorem everyInstructionEndsWithinItsBounds : Obligations.EveryInstructionEndsWithinItsBounds := by
  intro i s ha hw hi hok hlen
  obtain ⟨-, htape, -, -, hevents, -, -⟩ := startOf_boundary i s
  obtain ⟨hend, new, hnew, hmin, hmax, hrest⟩ := (startOf_endsWithin ha hw hi).drive s.answers hok hlen
  rw [hevents] at hnew
  exact ⟨startOf i s, drive s.answers (startOf i s), new, exec_of_wf ha hw i, by rw [State.resume, htape], hend.idle,
    hend.noFault, hend.reply, hnew, hmin, hmax, hrest⟩

/-- Settles O26: the default budgets are 2000 and 255 (R9), and the sums of the table are evaluated. -/
theorem transactionBoundsOfTheTable : Obligations.TransactionBoundsOfTheTable :=
  ⟨fun _ _ _ _ _ _ => rfl, fun _ _ _ _ _ _ => rfl⟩

end Sys2Proof.Machine
end
